-- ==== Sys2Proof/Word.lean ====
section
/-! DEFINITION. The bus word, the byte and the 57-byte buffer (spec 00_scope.md R9, R10). -/

namespace Sys2Proof

/-- A 32-bit bus word (R10). -/
abbrev Word := BitVec 32

/-- A byte of the keystream or of the data. -/
abbrev Byte := BitVec 8

/-- A frame of exactly 57 bytes (R9): the form of KS (10_state.md R22) and of DATA (R23). -/
abbrev Buffer := Vector Byte 57

end Sys2Proof
end

