-- ==== Sys2Proof/Syntax.lean ====
section
/-! DEFINITION. The commands: one constructor per row of spec/opcode_table.json (30_encoding.md R48). -/

namespace Sys2Proof

/-- A command of the block. The only operand in a command word besides OP is LEN (R47). -/
inductive Instr where
  | nop
  | construct
  | init
  | getFrame
  | incFrame
  | cipherFrame (len : BitVec 6)
  | sreset
deriving DecidableEq, Repr

end Sys2Proof
end

