-- ==== Sys2Proof/WellFormed.lean ====
section
/-! DEFINITION. Which terms of Instr are commands of the block (30_encoding.md R49). -/

namespace Sys2Proof

/-- A command is well formed when its word is legal (R49): only LEN of CIPHER_FRAME can be out of its range,
1 to 57. -/
def Instr.wf : Instr → Bool
  | .nop => true
  | .construct => true
  | .init => true
  | .getFrame => true
  | .incFrame => true
  | .cipherFrame len => decide (1 ≤ len.toNat) && decide (len.toNat ≤ 57)
  | .sreset => true

end Sys2Proof
end

