-- ==== Sys2Proof/Decode.lean ====
section
/-! DEFINITION. The command decoder, total on 32-bit words and rejecting by name, and after it the
encoder (30_encoding.md R47 to R49). -/

namespace Sys2Proof

/-- Why a command word is illegal (R49). The hardware reports every one of them as CommandError. -/
inductive DecodeError where
  /-- A nonzero bit in 7:4 or 31:14. -/
  | reservedBits
  /-- OP in 0x7 to 0xF. -/
  | reservedOp (op : BitVec 4)
  /-- A nonzero LEN on an OP other than CIPHER_FRAME. -/
  | lenNotZero
  /-- CIPHER_FRAME with LEN = 0 or LEN in 58 to 63. -/
  | lenOutOfRange
deriving DecidableEq, Repr

/-- OP, bits 3:0 (R47). -/
def opField (v : Word) : BitVec 4 := v.extractLsb' 0 4

/-- LEN, bits 13:8 (R47). -/
def lenField (v : Word) : BitVec 6 := v.extractLsb' 8 6

/-- The reserved bits 7:4 and 31:14 are all zero (R47). -/
def reservedZero (v : Word) : Bool := v.extractLsb' 4 4 == 0 && v.extractLsb' 14 18 == 0

/-- LEN of CIPHER_FRAME lies in 1 to 57 (R49). -/
def lenLegal (len : BitVec 6) : Bool := Nat.ble 1 len.toNat && Nat.ble len.toNat 57

/-- A command that takes no LEN: its LEN field must be 0 (R47). -/
def withoutLen (len : BitVec 6) (i : Instr) : Except DecodeError Instr :=
  if len = 0 then .ok i else .error .lenNotZero

/-- The command a word written to CMD stands for, or why it is illegal (R48, R49). -/
def decode (v : Word) : Except DecodeError Instr :=
  if reservedZero v then
    match (opField v).toNat with
    | 0 => withoutLen (lenField v) .nop
    | 1 => withoutLen (lenField v) .construct
    | 2 => withoutLen (lenField v) .init
    | 3 => withoutLen (lenField v) .getFrame
    | 4 => withoutLen (lenField v) .incFrame
    | 5 => if lenLegal (lenField v) then .ok (.cipherFrame (lenField v)) else .error .lenOutOfRange
    | 6 => withoutLen (lenField v) .sreset
    | _ => .error (.reservedOp (opField v))
  else .error .reservedBits

/-- OP of each command (R48). -/
def opcode : Instr → BitVec 4
  | .nop => 0x0
  | .construct => 0x1
  | .init => 0x2
  | .getFrame => 0x3
  | .incFrame => 0x4
  | .cipherFrame _ => 0x5
  | .sreset => 0x6

/-- LEN of each command: 0 for every command other than CIPHER_FRAME (R47). -/
def encodedLen : Instr → BitVec 6
  | .nop => 0
  | .construct => 0
  | .init => 0
  | .getFrame => 0
  | .incFrame => 0
  | .cipherFrame len => len
  | .sreset => 0

/-- The word of a command: 31:14 zero, LEN in 13:8, 7:4 zero, OP in 3:0 (R47). -/
def encode (i : Instr) : Word := 0#18 ++ encodedLen i ++ 0#4 ++ opcode i

/-- The command word whose low nbits are w (bits above nbits are 0); CMD is one 32-bit word (R47). -/
def commandWord (nbits w : Nat) : Word := BitVec.ofNat 32 (w % 2 ^ nbits)

/-- The command the decoder reads from an opcode-table word of nbits bits; none where it is illegal or
does not fit the 32-bit command word (R47). -/
def decodeTableWord (nbits w : Nat) : Option Instr :=
  if w % 2 ^ nbits < 2 ^ 32 then (decode (commandWord nbits w)).toOption else none

end Sys2Proof
end

