-- ==== Sys2Proof/Config.lean ====
section
/-! DEFINITION. What a build fixes (spec 00_scope.md R11) and the free values the spec leaves open. -/

namespace Sys2Proof

/-- The parameters fixed at build time (R11): P_BASE, P_R3_BUG_COMPAT and P_CLEAR_ON_INIT. They are
plain data in State and no step changes them, so a statement about every state covers every build
(DESIGN CHOICE, log 1; safe). P_BASE must be a multiple of 4096 (20_memory.md R31), so it is held as
the number of its 4096-byte page. -/
structure Build where
  basePage    : Nat
  r3BugCompat : Bool
  clearOnInit : Bool
deriving DecidableEq, Repr

/-- The build of `State.reset`: both Bool parameters have the spec's default false (R11). P_BASE is
OPEN in the spec; page 0 is a DESIGN CHOICE (log 1; unsafe if a claim leans on it). -/
def Build.standard : Build :=
  { basePage := 0, r3BugCompat := false, clearOnInit := false }

/-- `draw()` (R14): values the spec leaves unspecified. The n-th draw of a run is `freeValue n`; it has
no body, so nothing can be proved of its value (log 5; safe). -/
opaque Config.freeValue : Nat → Word

end Sys2Proof
end

