-- ==== Sys2Proof/Machine/State.lean ====
section
/-! DEFINITION. The state of the block (spec 10_state.md), its inputs, its stops and its reset state
(70_reset_and_hazards.md R96). -/

namespace Sys2Proof.Machine

/-- The three shift registers, by name. A type of exactly three values, as 60_exceptions.md R85 asks. -/
inductive Reg where
  | r1
  | r2
  | r3
deriving DecidableEq, Repr

/-- The register bank: R1, R2 and R3 of 19, 22 and 23 bits; bit i is element i (R17). -/
structure Bank where
  r1 : BitVec 19
  r2 : BitVec 22
  r3 : BitVec 23
deriving DecidableEq, Repr

/-- PHASE, the state of the generator protocol (R21). -/
inductive Phase where
  | none
  | constructed
  | seeded
  | extracting
deriving DecidableEq, Repr

/-- A sequenced command that PENDING can hold, with its LEN field (R27). -/
inductive Pending where
  | init
  | getFrame
  | cipherFrame (len : BitVec 6)
deriving DecidableEq, Repr

/-- The errors a rule can `raise` (60_exceptions.md R80 to R83). -/
inductive ErrorKind where
  | seed
  | state
  | command
  | busy
deriving DecidableEq, Repr

/-- What the outside world can do to the block, and the turns it gives the sequencer (00_scope.md R15;
log 2). Addresses are platform addresses (20_memory.md R31). -/
inductive Input where
  /-- `MemRead`, a 32-bit host read (R14). -/
  | read (addr : Nat)
  /-- `MemWrite`, a 32-bit host write (R14). -/
  | write (addr : Nat) (value : Word)
  /-- The scheduler lets the sequencer step (41_generator_commands.md R73). -/
  | sequencer
  /-- The reset input is asserted (70_reset_and_hazards.md R95). -/
  | reset
  /-- Power or clock is removed (60_exceptions.md R94; log 8). -/
  | powerLoss
deriving DecidableEq, Repr

/-- Every piece of state the spec gives the block (10_state.md), the build parameters, and three fields
of the model's own: `inputs`, `rdata` and `draws`. -/
structure State where
  /-- CONFIG (R24) and P_BASE (R31): constant. -/
  build    : Build
  /-- R1, R2, R3 (R17). -/
  bank     : Bank
  /-- KEY (R19). -/
  key      : BitVec 64
  /-- FN, the current frame number (R19). -/
  fn       : BitVec 22
  /-- FBASE, the counting base (R19). -/
  fbase    : BitVec 22
  /-- FIDX, the frame index (R20). -/
  fidx     : BitVec 32
  /-- PHASE (R21). -/
  phase    : Phase
  /-- KS[0..56] (R22). -/
  ks       : Buffer
  /-- KSV (R22). -/
  ksv      : Bool
  /-- DATA[0..56] (R23). -/
  data     : Buffer
  /-- KEY_LO (R25). -/
  keyLo    : Word
  /-- KEY_HI (R25). -/
  keyHi    : Word
  /-- FRAME_IN (R25). -/
  frameIn  : Word
  /-- PENDING (R27). -/
  pending  : Option Pending
  /-- STATUS bit 8 (R28). -/
  errSeed  : Bool
  /-- STATUS bit 9 (R28). -/
  errState : Bool
  /-- STATUS bit 10 (R28). -/
  errCmd   : Bool
  /-- STATUS bit 11 (R28). -/
  errBusy  : Bool
  /-- STATUS bit 12 (R28). -/
  fnWrap   : Bool
  /-- The inputs still to come, oldest first (the model's own; log 2). -/
  inputs   : List Input
  /-- What the latest host read returned (the model's own; log 6). -/
  rdata    : Word
  /-- How many free values have been drawn (the model's own; log 5). -/
  draws    : Nat
deriving DecidableEq, Repr

/-- The faults of the model. -/
inductive Fault where
  /-- The source's "invalid register selector" (60_exceptions.md R85, 93_implementation_defined.md I10):
  a register index other than 1 to 3. Raised by nobody, since `Reg` has exactly three values; it is
  here because the spec names it as the one model fault (safe; log 10). -/
  | invalidRegisterSelector
deriving DecidableEq, Repr

/-- The refusals of the model. -/
inductive Refusal where
  /-- An instruction without a meaning. Raised by an arm of exec; no arm raises it (safe). -/
  | notModelled (mnemonic : String)
deriving DecidableEq, Repr

/-- The reset state of a given build (R96); the model's own fields start empty (logs 2, 5, 6). -/
def State.resetOf (b : Build) : State :=
  { build := b
    bank := { r1 := 0, r2 := 0, r3 := 0 }
    key := 0
    fn := 0
    fbase := 0
    fidx := 0
    phase := .none
    ks := Vector.replicate 57 0
    ksv := false
    data := Vector.replicate 57 0
    keyLo := 0
    keyHi := 0
    frameIn := 0
    pending := Option.none
    errSeed := false
    errState := false
    errCmd := false
    errBusy := false
    fnWrap := false
    inputs := []
    rdata := 0
    draws := 0 }

/-- The machine right after reset (R96), of the build with the default parameters (R11). -/
def State.reset : State := State.resetOf Build.standard

end Sys2Proof.Machine
end

