-- ==== Sys2Proof/Machine/Lfsr.lean ====
section
/-! DEFINITION. The core operations on the register bank (spec 40_lfsr_core.md R51 to R64). Each loop of
the spec is a structural recursion on its number of iterations. -/

namespace Sys2Proof.Machine

/-- Tap mask of R1, positions 18, 17, 16, 13 (10_state.md R18). -/
def tap1 : BitVec 19 := 0x072000

/-- Tap mask of R2, positions 21, 20 (R18). -/
def tap2 : BitVec 22 := 0x300000

/-- Tap mask of R3, positions 22, 21, 20, 7 (R18). -/
def tap3 : BitVec 23 := 0x700080

/-- The XOR of the low n bits of v. -/
def parityBelow {w : Nat} (v : BitVec w) : Nat → Bool
  | 0 => false
  | n + 1 => parityBelow v n ^^ v.getLsbD n

/-- `parity(v)`, the XOR of all bits of v (00_scope.md R13). -/
def parity {w : Nat} (v : BitVec w) : Bool := parityBelow v w

/-- `(v << 1) | b` in the width of v: the most-significant bit is lost (R52). -/
def shiftIn {w : Nat} (v : BitVec w) (b : Bool) : BitVec w :=
  (v <<< 1) ||| (BitVec.ofBool b).setWidth w

/-- `feedback(Rn)`, from the current, pre-shift state (R51). -/
def Bank.feedback : Reg → Bank → Bool
  | .r1, b => parity (b.r1 &&& tap1)
  | .r2, b => parity (b.r2 &&& tap2)
  | .r3, b => parity (b.r3 &&& tap3)

/-- `shift(Rn, x)` (R52). -/
def Bank.shift : Reg → Bool → Bank → Bank
  | .r1, x, b => { b with r1 := shiftIn b.r1 x }
  | .r2, x, b => { b with r2 := shiftIn b.r2 x }
  | .r3, x, b => { b with r3 := shiftIn b.r3 x }

/-- `clocking_bit(Rn)`: R1[8], R2[10], R3[10] (R53). -/
def Bank.clockingBit : Reg → Bank → Bool
  | .r1, b => b.r1.getLsbD 8
  | .r2, b => b.r2.getLsbD 10
  | .r3, b => b.r3.getLsbD 10

/-- One register's part of a mixing cycle: `shift(Rn, x ^ feedback(Rn))` (R54). -/
def mixRegister (n : Reg) (x : Bool) (b : Bank) : Bank :=
  b.shift n (x ^^ b.feedback n)

/-- `mixing_cycle(x)`: all three registers shift, in the order R1, R2, R3 (R54). -/
def mixingCycle (x : Bool) (b : Bank) : Bank :=
  mixRegister .r3 x (mixRegister .r2 x (mixRegister .r1 x b))

/-- Mixing cycles with bits 0, 1, ..., n-1 of v, in that order (R55, R56). -/
def mixBits {w : Nat} (v : BitVec w) : Nat → Bank → Bank
  | 0, b => b
  | n + 1, b => mixingCycle (v.getLsbD n) (mixBits v n b)

/-- `mix_key`: 64 cycles, least-significant key bit first (R55). -/
def mixKey (key : BitVec 64) (b : Bank) : Bank := mixBits key 64 b

/-- `mix_frame_number`: 22 cycles, least-significant bit of FN first (R56). -/
def mixFrameNumber (fn : BitVec 22) (b : Bank) : Bank := mixBits fn 22 b

/-- `majority(c1, c2, c3)`: 1 if at least two of the bits are 1 (R57). -/
def majority (c1 c2 c3 : Bool) : Bool := decide (2 ≤ c1.toNat + c2.toNat + c3.toNat)

/-- One branch of a majority cycle: `if go then shift(Rn, feedback(Rn))`, the feedback taken from Rn as it
stands at that line (R58, R59). -/
def clockIf (go : Bool) (n : Reg) (b : Bank) : Bank :=
  if go then b.shift n (b.feedback n) else b

/-- The register that the register-3 branch shifts: R3 (R58), or R1 in the bug-compatible build (R59). -/
def thirdBranch (bug : Bool) : Reg := if bug then .r1 else .r3

/-- `majority_cycle` with P_R3_BUG_COMPAT = bug: the three clocking bits are read before any shift, then
the branches run in the order R1, R2, R3 (R58, R59). -/
def majorityCycle (bug : Bool) (b : Bank) : Bank :=
  let c1 := b.clockingBit .r1
  let c2 := b.clockingBit .r2
  let c3 := b.clockingBit .r3
  let m := majority c1 c2 c3
  clockIf (c3 == m) (thirdBranch bug) (clockIf (c2 == m) .r2 (clockIf (c1 == m) .r1 b))

/-- n majority cycles. -/
def majorityCycles (bug : Bool) : Nat → Bank → Bank
  | 0, b => b
  | n + 1, b => majorityCycle bug (majorityCycles bug n b)

/-- `warm_up`: 100 majority cycles with no output (R61). -/
def warmUp (bug : Bool) (b : Bank) : Bank := majorityCycles bug 100 b

/-- The clear-or-keep step of seeding (R60). -/
def clearOrKeep (clear : Bool) (b : Bank) : Bank :=
  if clear then { r1 := 0, r2 := 0, r3 := 0 } else b

/-- `seed()`: clear if P_CLEAR_ON_INIT, mix the key, mix the frame number, warm up (R60). -/
def seed (build : Build) (key : BitVec 64) (fn : BitVec 22) (b : Bank) : Bank :=
  warmUp build.r3BugCompat (mixFrameNumber fn (mixKey key (clearOrKeep build.clearOnInit b)))

/-- The XOR of the most-significant bits of the three registers (R62). -/
def Bank.outputXor (b : Bank) : Bool := b.r1.getLsbD 18 ^^ b.r2.getLsbD 21 ^^ b.r3.getLsbD 22

/-- `output_bit()`: a majority cycle first, then the output taken after it (R62). -/
def outputBit (bug : Bool) (b : Bank) : Bool × Bank :=
  let b' := majorityCycle bug b
  (b'.outputXor, b')

/-- n output bits shifted into a byte, the first one most significant (R63). -/
def outputBits (bug : Bool) : Nat → Bank → Byte × Bank
  | 0, b => (0, b)
  | n + 1, b =>
    let p := outputBits bug n b
    let q := outputBit bug p.2
    (shiftIn p.1 q.1, q.2)

/-- `output_byte()`: 8 output bits (R63). -/
def outputByte (bug : Bool) (b : Bank) : Byte × Bank := outputBits bug 8 b

/-- n output bytes in the order they are produced (R64). -/
def outputBytes (bug : Bool) : (n : Nat) → Bank → Vector Byte n × Bank
  | 0, b => (#v[], b)
  | n + 1, b =>
    let p := outputBytes bug n b
    let q := outputByte bug p.2
    (p.1.push q.1, q.2)

/-- `keystream_frame()`: 57 bytes, continuously (R64), and the registers it leaves. -/
def keystreamFrame (bug : Bool) (b : Bank) : Buffer × Bank := outputBytes bug 57 b

end Sys2Proof.Machine
end

