-- ==== Sys2Proof/Machine/Operands.lean ====
section
/-! DEFINITION. The operands: window addresses and offsets, byte lanes and buffer words, and the
candidate seed material (spec 20_memory.md R31 to R34, 10_state.md R25, R30). -/

namespace Sys2Proof.Machine

/-- P_BASE, a multiple of 4096 (R31). -/
def pBase (b : Build) : Nat := 4096 * b.basePage

/-- The window offset of a platform address; none outside the window (R31). -/
def windowOffset (b : Build) (addr : Nat) : Option Nat :=
  if pBase b ≤ addr ∧ addr < pBase b + 4096 then some (addr - pBase b) else none

/-- `off & 0xFFC`: bits 1:0 of an offset are ignored (R32). -/
def wordOffset (off : Nat) : Nat := 4 * (off / 4)

/-- The words of the register window (R30); j is a word index of a buffer (R33). -/
inductive WindowWord where
  | cmd
  | status
  | keyLo
  | keyHi
  | frameIn
  | fn
  | fbase
  | fidx
  | config
  | ks (j : Nat)
  | data (j : Nat)
  | reserved
deriving DecidableEq, Repr

/-- The register map (R30). -/
def windowWord (a : Nat) : WindowWord :=
  if a = 0x000 then .cmd
  else if a = 0x004 then .status
  else if a = 0x008 then .keyLo
  else if a = 0x00C then .keyHi
  else if a = 0x010 then .frameIn
  else if a = 0x014 then .fn
  else if a = 0x018 then .fbase
  else if a = 0x01C then .fidx
  else if a = 0x020 then .config
  else if 0x100 ≤ a ∧ a < 0x13C then .ks ((a - 0x100) / 4)
  else if 0x200 ≤ a ∧ a < 0x23C then .data ((a - 0x200) / 4)
  else .reserved

/-- Byte k of a buffer; an index of 57 or more names no byte and reads 0 (R33). -/
def byteOf (b : Buffer) (k : Nat) : Byte := if h : k < 57 then b[k] else 0

/-- Word j of a buffer, little-endian (R33). -/
def bufferWord (b : Buffer) (j : Nat) : Word :=
  byteOf b (4 * j + 3) ++ byteOf b (4 * j + 2) ++ byteOf b (4 * j + 1) ++ byteOf b (4 * j)

/-- Byte lane t of a word, `v[8t+7:8t]` (R38). -/
def byteLane (v : Word) (t : Nat) : Byte := v.extractLsb' (8 * t) 8

/-- A buffer with word j replaced by v; lanes that name no byte are ignored (R33, R38). -/
def storeWord (b : Buffer) (j : Nat) (v : Word) : Buffer :=
  Vector.ofFn fun k => if k.val / 4 = j then byteLane v (k.val % 4) else b[k]

/-- The first len bytes XORed with the keystream, the rest unchanged (10_state.md R23, 42_frame_cipher.md R75). -/
def xorBelow (len : Nat) (ks data : Buffer) : Buffer :=
  Vector.ofFn fun k => if k.val < len then data[k] ^^^ ks[k] else data[k]

/-- The candidate key `{KEY_HI, KEY_LO}` (R25, R34). -/
def State.candidateKey (s : State) : BitVec 64 := s.keyHi ++ s.keyLo

/-- FRAME_IN is within the 22-bit bound, below 2^22 (41_generator_commands.md R67). -/
def State.frameInRange (s : State) : Bool := Nat.blt s.frameIn.toNat 0x400000

/-- One byte of the two buffers by its window offset: KS at 0x100, DATA at 0x200 (R30, R33); 0 where no
buffer byte stands. -/
def State.bufferByte (s : State) (off : Nat) : Byte :=
  if 0x100 ≤ off ∧ off < 0x139 then byteOf s.ks (off - 0x100)
  else if 0x200 ≤ off ∧ off < 0x239 then byteOf s.data (off - 0x200)
  else 0

end Sys2Proof.Machine
end

