-- ==== Sys2Proof/Machine/Flags.lean ====
section
/-! DEFINITION. STATUS: its fields, how it reads and how a write clears it (spec 10_state.md R28), CONFIG
as it reads (R24), and the phases that admit a command (41_generator_commands.md R65). -/

namespace Sys2Proof.Machine

/-- BUSY is 1 exactly when PENDING holds a command (R27; log 11). -/
def State.busy (s : State) : Bool := s.pending.isSome

/-- The encoding of PHASE (R21). -/
def Phase.bits : Phase → BitVec 2
  | .none => 0
  | .constructed => 1
  | .seeded => 2
  | .extracting => 3

/-- STATUS as read: `zext_32({FN_WRAP, ERR_BUSY, ERR_CMD, ERR_STATE, ERR_SEED, 0b0000, KSV, PHASE, BUSY})`
(20_memory.md R36). -/
def State.statusWord (s : State) : Word :=
  0#19 ++ BitVec.ofBool s.fnWrap ++ BitVec.ofBool s.errBusy ++ BitVec.ofBool s.errCmd
    ++ BitVec.ofBool s.errState ++ BitVec.ofBool s.errSeed ++ 0#4 ++ BitVec.ofBool s.ksv
    ++ s.phase.bits ++ BitVec.ofBool s.busy

/-- CONFIG as read: `zext_32({P_CLEAR_ON_INIT, P_R3_BUG_COMPAT})` (R24, R36). -/
def State.configWord (s : State) : Word :=
  0#30 ++ BitVec.ofBool s.build.clearOnInit ++ BitVec.ofBool s.build.r3BugCompat

/-- A write of v to STATUS: each of bits 8 to 12 that is 1 in v is cleared, the rest is ignored (R28, R38). -/
def clearStatus (v : Word) (s : State) : State :=
  { s with
    errSeed := s.errSeed && !v.getLsbD 8
    errState := s.errState && !v.getLsbD 9
    errCmd := s.errCmd && !v.getLsbD 10
    errBusy := s.errBusy && !v.getLsbD 11
    fnWrap := s.fnWrap && !v.getLsbD 12 }

/-- PHASE != NONE: what INIT, INC_FRAME and CIPHER_FRAME need (R65). -/
def State.hasContext (s : State) : Bool := decide (s.phase ≠ .none)

/-- PHASE in {SEEDED, EXTRACTING}: what GET_FRAME needs (R65). -/
def State.isSeeded (s : State) : Bool := decide (s.phase = .seeded) || decide (s.phase = .extracting)

end Sys2Proof.Machine
end

