-- ==== Sys2Proof/Machine/Ops.lean ====
section
/-! DEFINITION. The shared operations: raising an error (the block's only form of exception), the
dispatch checks of a command, accepting a sequenced command, free values, reset and loss of power. There
is no return from an error (spec 60_exceptions.md R88). -/

namespace Sys2Proof.Machine

/-- `raise E` (60_exceptions.md R86): sets E's sticky bit of STATUS and nothing else; the rule that raised
it ends there. No state is saved and no vector is taken. -/
def raise (e : ErrorKind) (s : State) : State :=
  { s with
    errSeed := s.errSeed || decide (e = .seed)
    errState := s.errState || decide (e = .state)
    errCmd := s.errCmd || decide (e = .command)
    errBusy := s.errBusy || decide (e = .busy) }

/-- The checks of a CMD write other than a legal SRESET, in their order of priority: BUSY, then the word's
legality, then the phase (41_generator_commands.md R65, 60_exceptions.md R87). -/
def dispatch (legal admitted : Bool) (effect : State → State) (s : State) :
    Host.Outcome State Fault Refusal :=
  .next (if s.busy then raise .busy s
    else if !legal then raise .command s
    else if !admitted then raise .state s
    else effect s)

/-- A sequenced command goes pending: `PENDING <- c; BUSY <- 1; KSV <- 0` (R65). -/
def accept (c : Pending) (s : State) : State :=
  { s with pending := some c, ksv := false }

/-- The values of a read whose result is `draw()`: a fresh free word (20_memory.md R37; log 5). -/
def drawRead (s : State) : State :=
  { s with rdata := Config.freeValue s.draws, draws := s.draws + 1 }

/-- Reset, by the reset input or by SRESET: every piece of the block's state takes its reset value at once
(70_reset_and_hazards.md R95, R96). CONFIG and P_BASE are constant; the model's own fields (inputs still
to come, the host's last read value, the draw counter) are not the block's and stay (log 9). -/
def resetBlock (s : State) : State :=
  { State.resetOf s.build with inputs := s.inputs, rdata := s.rdata, draws := s.draws }

/-- A free value of PENDING, from a free word. -/
def freePending (v : Word) : Option Pending :=
  match (v.extractLsb' 0 2).toNat with
  | 0 => none
  | 1 => some .init
  | 2 => some .getFrame
  | _ => some (.cipherFrame (v.extractLsb' 2 6))

/-- A free value of PHASE, from two free bits. -/
def freePhase (v : BitVec 2) : Phase :=
  match v.toNat with
  | 0 => .none
  | 1 => .constructed
  | 2 => .seeded
  | _ => .extracting

/-- Power or clock removed: no state of the block is assumed to survive, each piece takes a free value and
only a reset defines it again (60_exceptions.md R94, 93_implementation_defined.md I17; log 8). The build
and the model's own fields are no state that power holds. -/
def losePower (s : State) : State :=
  let w := fun i => Config.freeValue (s.draws + i)
  { build := s.build
    bank := { r1 := (w 0).setWidth 19, r2 := (w 1).setWidth 22, r3 := (w 2).setWidth 23 }
    key := w 3 ++ w 4
    fn := (w 5).setWidth 22
    fbase := (w 6).setWidth 22
    fidx := w 7
    phase := freePhase ((w 8).extractLsb' 0 2)
    ks := Vector.ofFn fun k => (w (13 + k.val)).setWidth 8
    ksv := (w 8).getLsbD 2
    data := Vector.ofFn fun k => (w (70 + k.val)).setWidth 8
    keyLo := w 9
    keyHi := w 10
    frameIn := w 11
    pending := freePending (w 12)
    errSeed := (w 8).getLsbD 3
    errState := (w 8).getLsbD 4
    errCmd := (w 8).getLsbD 5
    errBusy := (w 8).getLsbD 6
    fnWrap := (w 8).getLsbD 7
    inputs := s.inputs
    rdata := s.rdata
    draws := s.draws + 127 }

end Sys2Proof.Machine
end

