-- ==== Sys2Proof/Machine/Generator.lean ====
section
/-! DEFINITION. The generator protocol commands: NOP, CONSTRUCT, INIT, GET_FRAME, INC_FRAME and SRESET
(spec 41_generator_commands.md R66 to R71), each at its CMD write, and the completions of INIT and
GET_FRAME in a sequencer step (R73). -/

namespace Sys2Proof.Machine

/-- The body of CONSTRUCT (R67): `KSV <- 0`, then the 22-bit bound, then the new context. -/
def construct (s : State) : State :=
  if s.frameInRange then
    { s with
      ksv := false
      key := s.candidateKey
      fn := s.frameIn.setWidth 22
      fbase := s.frameIn.setWidth 22
      fidx := 0
      phase := .constructed }
  else raise .seed { s with ksv := false, phase := .none }

/-- The body of INC_FRAME (R70): FN advances modulo 2^22; FN_WRAP when it was 2^22 - 1. -/
def incFrame (s : State) : State :=
  { s with
    fnWrap := s.fnWrap || s.fn == 0x3FFFFF
    fn := s.fn + 1 }

/-- The completion of INIT (R68, R73). -/
def completeInit (s : State) : State :=
  { s with
    bank := seed s.build s.key s.fn s.bank
    phase := .seeded
    pending := none }

/-- The completion of GET_FRAME (R69, R73). -/
def completeGetFrame (s : State) : State :=
  let f := keystreamFrame s.build.r3BugCompat s.bank
  { s with
    bank := f.2
    ks := f.1
    ksv := true
    phase := .extracting
    pending := none }

/-- NOP (R66). -/
def execNop (s : State) : Host.Outcome State Fault Refusal :=
  dispatch true true (fun t => t) s

/-- CONSTRUCT (R67). -/
def execConstruct (s : State) : Host.Outcome State Fault Refusal :=
  dispatch true true construct s

/-- INIT at its CMD write (R68): admitted when PHASE != NONE, goes pending. -/
def execInit (s : State) : Host.Outcome State Fault Refusal :=
  dispatch true s.hasContext (accept .init) s

/-- GET_FRAME at its CMD write (R69): admitted in SEEDED and EXTRACTING, goes pending. -/
def execGetFrame (s : State) : Host.Outcome State Fault Refusal :=
  dispatch true s.isSeeded (accept .getFrame) s

/-- INC_FRAME (R70). -/
def execIncFrame (s : State) : Host.Outcome State Fault Refusal :=
  dispatch true s.hasContext incFrame s

/-- SRESET (R71): the reset of R95, taken even when BUSY = 1; a pending command is abandoned. -/
def execSreset (s : State) : Host.Outcome State Fault Refusal :=
  .next (resetBlock s)

end Sys2Proof.Machine
end

