-- ==== Sys2Proof/Machine/FrameCipher.lean ====
section
/-! DEFINITION. CIPHER_FRAME: its CMD write and its completion (spec 42_frame_cipher.md R75), and the
sequencer step that completes the pending command (41_generator_commands.md R73). -/

namespace Sys2Proof.Machine

/-- `FBASE + FIDX`, the unbounded sum (R75). -/
def State.frameSum (s : State) : Nat := s.fbase.toNat + s.fidx.toNat

/-- The completion of CIPHER_FRAME with byte count len (R75). -/
def completeCipherFrame (len : BitVec 6) (s : State) : State :=
  let fn := BitVec.ofNat 22 s.frameSum
  let f := keystreamFrame s.build.r3BugCompat (seed s.build s.key fn s.bank)
  { s with
    fnWrap := s.fnWrap || Nat.ble 0x400000 s.frameSum
    fn := fn
    bank := f.2
    ks := f.1
    data := xorBelow len.toNat f.1 s.data
    fidx := s.fidx + 1
    ksv := true
    phase := .extracting
    pending := none }

/-- CIPHER_FRAME at its CMD write (R75): LEN in 1 to 57 or CommandError; admitted when PHASE != NONE; goes
pending. An ill-formed LEN is answered as the word it encodes would be (log 15). -/
def execCipherFrame (len : BitVec 6) (s : State) : Host.Outcome State Fault Refusal :=
  dispatch (lenLegal len) s.hasContext (accept (.cipherFrame len)) s

/-- The sequencer step (R73): it completes the pending command and empties PENDING; with nothing pending it
is not enabled and its turn changes nothing (log 3). -/
def sequencerStep (s : State) : State :=
  match s.pending with
  | none => s
  | some .init => completeInit s
  | some .getFrame => completeGetFrame s
  | some (.cipherFrame len) => completeCipherFrame len s

end Sys2Proof.Machine
end

