-- ==== Sys2Proof/Machine/Dispatch.lean ====
section
/-! DEFINITION. exec: one arm per command (spec 30_encoding.md R48, 41_generator_commands.md R65). -/

namespace Sys2Proof.Machine

/-- The effect of a command at its CMD write. -/
def exec (i : Instr) (s : State) : Host.Outcome State Fault Refusal :=
  match i with
  | .nop => Sys2Proof.Machine.execNop s
  | .construct => Sys2Proof.Machine.execConstruct s
  | .init => Sys2Proof.Machine.execInit s
  | .getFrame => Sys2Proof.Machine.execGetFrame s
  | .incFrame => Sys2Proof.Machine.execIncFrame s
  | .cipherFrame len => Sys2Proof.Machine.execCipherFrame len s
  | .sreset => Sys2Proof.Machine.execSreset s

end Sys2Proof.Machine
end

