-- ==== Sys2Proof/Machine/Bus.lean ====
section
/-! DEFINITION. Host accesses to the register window (spec 20_memory.md R36 to R39), a CMD write
(41_generator_commands.md R65), and what each input does to the block. -/

namespace Sys2Proof.Machine

/-- What a word of the window reads when its value is defined (R36). -/
def readWord (s : State) : WindowWord → Word
  | .cmd => 0
  | .status => s.statusWord
  | .keyLo => 0
  | .keyHi => 0
  | .frameIn => s.frameIn
  | .fn => s.fn.setWidth 32
  | .fbase => s.fbase.setWidth 32
  | .fidx => s.fidx
  | .config => s.configWord
  | .ks j => bufferWord s.ks j
  | .data j => bufferWord s.data j
  | .reserved => 0

/-- The words whose reads return `draw()` while BUSY = 1: FN, FIDX, KS and DATA (R37). -/
def unsettledWhileBusy : WindowWord → Bool
  | .cmd => false
  | .status => false
  | .keyLo => false
  | .keyHi => false
  | .frameIn => false
  | .fn => true
  | .fbase => false
  | .fidx => true
  | .config => false
  | .ks _ => true
  | .data _ => true
  | .reserved => false

/-- A host read of the window at an offset (R32, R36, R37). -/
def readOffset (off : Nat) (s : State) : State :=
  if s.busy && unsettledWhileBusy (windowWord (wordOffset off)) then drawRead s
  else { s with rdata := readWord s (windowWord (wordOffset off)) }

/-- A host read; an address outside the window does not reach the block (R31). -/
def hostRead (addr : Nat) (s : State) : State :=
  match windowOffset s.build addr with
  | some off => readOffset off s
  | none => s

/-- A write to CMD: a legal word runs its command, any other is refused with BusyError or CommandError
(R49, R65). -/
def writeCommand (v : Word) (s : State) : Host.Outcome State Fault Refusal :=
  match decode v with
  | .ok i => exec i s
  | .error _ => dispatch false true (fun t => t) s

/-- A write to a DATA word: refused with BusyError while BUSY = 1 (R38, R39). -/
def writeData (j : Nat) (v : Word) (s : State) : State :=
  if s.busy then raise .busy s else { s with data := storeWord s.data j v }

/-- A host write to a word of the window (R38, R39). -/
def writeWord (v : Word) (s : State) : WindowWord → Host.Outcome State Fault Refusal
  | .cmd => writeCommand v s
  | .status => .next (clearStatus v s)
  | .keyLo => .next { s with keyLo := v }
  | .keyHi => .next { s with keyHi := v }
  | .frameIn => .next { s with frameIn := v }
  | .fn => .next s
  | .fbase => .next s
  | .fidx => .next s
  | .config => .next s
  | .ks _ => .next s
  | .data j => .next (writeData j v s)
  | .reserved => .next s

/-- A host write; an address outside the window does not reach the block (R31, R32). -/
def hostWrite (addr : Nat) (v : Word) (s : State) : Host.Outcome State Fault Refusal :=
  match windowOffset s.build addr with
  | some off => writeWord v s (windowWord (wordOffset off))
  | none => .next s

/-- One input: a host access, a turn of the sequencer, a reset or a loss of power (00_scope.md R15). -/
def perform (e : Input) (s : State) : Host.Outcome State Fault Refusal :=
  match e with
  | .read addr => .next (hostRead addr s)
  | .write addr v => hostWrite addr v s
  | .sequencer => .next (sequencerStep s)
  | .reset => .next (resetBlock s)
  | .powerLoss => .next (losePower s)

/-- The machine's next move: the first input still to come; with none left the host is silent and the
sequencer takes its turn, so a pending command completes (R73, weak fairness; log 3). -/
def advance (s : State) : Host.Outcome State Fault Refusal :=
  match s.inputs with
  | [] => .next (sequencerStep s)
  | e :: rest => perform e { s with inputs := rest }

/-- A command word placed as the next input: a host write of it to CMD at P_BASE (10_state.md R29; log 2). -/
def placeCommand (v : Word) (s : State) : State :=
  { s with inputs := .write (pBase s.build) v :: s.inputs }

end Sys2Proof.Machine
end

