-- ==== Sys2Proof/Machine/Step.lean ====
section
/-! DEFINITION. One step of the machine, and the placing of a command as its next input. -/

namespace Sys2Proof.Machine

/-- One atomic step: a host access, a sequencer step, or another input (spec 20_memory.md R41, R42). -/
def step (s : State) : Host.Outcome State Fault Refusal := advance s

/-- s with the command word of nbits bits as its next input: the very next step is the host's write of that
word to CMD (the block fetches nothing, 20_memory.md R44; log 2). -/
def State.withFetchWord (s : State) (nbits w : Nat) : State := placeCommand (commandWord nbits w) s

end Sys2Proof.Machine
end

