-- ==== Sys2Proof/Safety.lean ====
section
/-! DEFINITION. What the claims are stated in: the invariant of the block, and what the host cannot see. -/

namespace Sys2Proof.Machine

/-- The phases in which a sequenced command is admitted (spec 41_generator_commands.md R65). -/
def admittedIn : Pending → Phase → Bool
  | .init, p => decide (p ≠ .none)
  | .getFrame, p => decide (p = .seeded) || decide (p = .extracting)
  | .cipherFrame _, p => decide (p ≠ .none)

/-- LEN of a pending CIPHER_FRAME is legal (30_encoding.md R49). -/
def pendingLenLegal : Pending → Bool
  | .init => true
  | .getFrame => true
  | .cipherFrame len => lenLegal len

/-- The block's invariant: a pending command was admitted in the current phase, has a legal LEN and has
cleared KSV (R65, 20_memory.md R37); KSV is 1 only after a completed GET_FRAME or CIPHER_FRAME, so only
in EXTRACTING (10_state.md R22, R72). -/
structure State.Inv (s : State) : Prop where
  pendingAdmitted : ∀ c, s.pending = some c → admittedIn c s.phase = true
  pendingLegal    : ∀ c, s.pending = some c → pendingLenLegal c = true
  pendingKsv      : ∀ c, s.pending = some c → s.ksv = false
  ksvPhase        : s.ksv = true → s.phase = .extracting

/-- s and t differ at most in what the host can never read: R1, R2, R3, KEY, KEY_LO and KEY_HI (10_state.md
R17, R19, R25; 60_exceptions.md R90, R92). -/
def State.SameToHost (s t : State) : Prop :=
  t = { s with bank := t.bank, key := t.key, keyLo := t.keyLo, keyHi := t.keyHi }

/-- s with e as its next input: `step (s.withNext e)` is what e does to the block at s. -/
def State.withNext (s : State) (e : Input) : State := { s with inputs := e :: s.inputs }

/-- A host access of the window at this offset, as an input (00_scope.md R14). -/
def State.readInput (s : State) (off : Nat) : Input := .read (pBase s.build + off)

/-- A host write of v at this window offset, as an input (00_scope.md R14). -/
def State.writeInput (s : State) (off : Nat) (v : Word) : Input := .write (pBase s.build + off) v

/-- e is a host write of the SRESET word to CMD (41_generator_commands.md R71). -/
def State.isSresetWrite (s : State) (e : Input) : Prop :=
  ∃ off, off < 4 ∧ e = s.writeInput off 0x00000006

end Sys2Proof.Machine
end

