-- ==== Sys2Proof/Certificates/Slice0/Obligations.lean ====
section
/-! DEFINITION. The statements for the provers. Each docstring says which rules of spec/ it formalises. -/

open Sys2Proof Sys2Proof.Machine

/-! ### The core operations (40_lfsr_core.md) -/

/-- R51: feedback is the XOR of the tap bits of the register's current state (positions of R18), so bits
outside the taps never matter. -/
def Obligations.FeedbackIsXorOfTaps : Prop :=
  ∀ b : Bank,
    b.feedback .r1 = (b.r1.getLsbD 18 ^^ b.r1.getLsbD 17 ^^ b.r1.getLsbD 16 ^^ b.r1.getLsbD 13) ∧
    b.feedback .r2 = (b.r2.getLsbD 21 ^^ b.r2.getLsbD 20) ∧
    b.feedback .r3 = (b.r3.getLsbD 22 ^^ b.r3.getLsbD 21 ^^ b.r3.getLsbD 20 ^^ b.r3.getLsbD 7)

/-- R52: a shift moves every bit one place up, loses the most-significant bit, puts x at index 0, is
`(2 * Rn + x) mod 2^Ln` as a number, and leaves the other two registers alone. -/
def Obligations.ShiftMovesBitsUp : Prop :=
  ∀ (b : Bank) (x : Bool),
    ((∀ i, (b.shift .r1 x).r1.getLsbD i = if i = 0 then x else decide (i < 19) && b.r1.getLsbD (i - 1)) ∧
      (b.shift .r1 x).r1.toNat = (2 * b.r1.toNat + x.toNat) % 2 ^ 19 ∧
      (b.shift .r1 x).r2 = b.r2 ∧ (b.shift .r1 x).r3 = b.r3) ∧
    ((∀ i, (b.shift .r2 x).r2.getLsbD i = if i = 0 then x else decide (i < 22) && b.r2.getLsbD (i - 1)) ∧
      (b.shift .r2 x).r2.toNat = (2 * b.r2.toNat + x.toNat) % 2 ^ 22 ∧
      (b.shift .r2 x).r1 = b.r1 ∧ (b.shift .r2 x).r3 = b.r3) ∧
    ((∀ i, (b.shift .r3 x).r3.getLsbD i = if i = 0 then x else decide (i < 23) && b.r3.getLsbD (i - 1)) ∧
      (b.shift .r3 x).r3.toNat = (2 * b.r3.toNat + x.toNat) % 2 ^ 23 ∧
      (b.shift .r3 x).r1 = b.r1 ∧ (b.shift .r3 x).r2 = b.r2)

/-- R54: a mixing cycle shifts all three registers, whatever their clocking bits, each with the seed bit
XOR its own pre-shift feedback; with zero registers and bit 0 nothing changes. -/
def Obligations.MixingCycleShiftsAll : Prop :=
  (∀ (b : Bank) (x : Bool),
    (mixingCycle x b).r1 = (b.shift .r1 (x ^^ b.feedback .r1)).r1 ∧
    (mixingCycle x b).r2 = (b.shift .r2 (x ^^ b.feedback .r2)).r2 ∧
    (mixingCycle x b).r3 = (b.shift .r3 (x ^^ b.feedback .r3)).r3) ∧
  mixingCycle false ⟨0, 0, 0⟩ = ⟨0, 0, 0⟩

/-- R55, R56: the 64 key bits, then the 22 frame-number bits, are mixed least-significant first. -/
def Obligations.MixingTakesLowBitsFirst : Prop :=
  (∀ (key : BitVec 64) (b : Bank),
    mixKey key b = (List.range 64).foldl (fun c i => mixingCycle (key.getLsbD i) c) b) ∧
  (∀ (fn : BitVec 22) (b : Bank),
    mixFrameNumber fn b = (List.range 22).foldl (fun c i => mixingCycle (fn.getLsbD i) c) b)

/-- R57: the majority is 1 exactly when at least two of the three bits are 1 (all eight inputs). -/
def Obligations.MajorityTruthTable : Prop :=
  majority false false false = false ∧ majority false false true = false ∧
  majority false true false = false ∧ majority false true true = true ∧
  majority true false false = false ∧ majority true false true = true ∧
  majority true true false = true ∧ majority true true true = true

/-- R58 (P_R3_BUG_COMPAT = false): a register shifts with its own feedback exactly when its clocking bit
agrees with that of another register, and is unchanged otherwise; at least two registers shift. -/
def Obligations.MajorityCycleClocksTheAgreeing : Prop :=
  ∀ b : Bank,
    let c1 := b.r1.getLsbD 8
    let c2 := b.r2.getLsbD 10
    let c3 := b.r3.getLsbD 10
    (majorityCycle false b).r1 = (if c1 = c2 ∨ c1 = c3 then shiftIn b.r1 (b.feedback .r1) else b.r1) ∧
    (majorityCycle false b).r2 = (if c2 = c1 ∨ c2 = c3 then shiftIn b.r2 (b.feedback .r2) else b.r2) ∧
    (majorityCycle false b).r3 = (if c3 = c1 ∨ c3 = c2 then shiftIn b.r3 (b.feedback .r3) else b.r3) ∧
    ((c1 = c2 ∨ c1 = c3) ∧ (c2 = c1 ∨ c2 = c3) ∨ (c1 = c2 ∨ c1 = c3) ∧ (c3 = c1 ∨ c3 = c2) ∨
      (c2 = c1 ∨ c2 = c3) ∧ (c3 = c1 ∨ c3 = c2))

/-- R59 (P_R3_BUG_COMPAT = true): R3 never shifts; R2 shifts when its clocking bit has the majority; R1
shifts once for its own branch and once more, with the feedback it then has, for the register-3 branch. -/
def Obligations.BugCompatibleCycle : Prop :=
  ∀ b : Bank,
    let c1 := b.r1.getLsbD 8
    let c2 := b.r2.getLsbD 10
    let c3 := b.r3.getLsbD 10
    let b1 := b.shift .r1 (b.feedback .r1)
    (majorityCycle true b).r3 = b.r3 ∧
    (majorityCycle true b).r2 = (if c2 = c1 ∨ c2 = c3 then shiftIn b.r2 (b.feedback .r2) else b.r2) ∧
    (majorityCycle true b).r1 =
      (if (c1 = c2 ∨ c1 = c3) ∧ (c3 = c1 ∨ c3 = c2) then (b1.shift .r1 (b1.feedback .r1)).r1
        else if (c1 = c2 ∨ c1 = c3) ∨ (c3 = c1 ∨ c3 = c2) then b1.r1 else b.r1)

/-- R60, R61: seeding clears the registers only when P_CLEAR_ON_INIT is true, mixes the key, then the frame
number, then runs exactly 100 majority cycles; each mixing cycle is an invertible map of the registers, and
so is the whole mixing; zero registers with KEY = 0 and FN = 0 stay zero. -/
def Obligations.SeedingProcedure : Prop :=
  (∀ (build : Build) (key : BitVec 64) (fn : BitVec 22) (b : Bank),
    seed build key fn b =
      (majorityCycle build.r3BugCompat)^[100]
        (mixFrameNumber fn (mixKey key (if build.clearOnInit then ⟨0, 0, 0⟩ else b)))) ∧
  (∀ (x : Bool) (b c : Bank), mixingCycle x b = mixingCycle x c → b = c) ∧
  (∀ (key : BitVec 64) (fn : BitVec 22) (b c : Bank),
    mixFrameNumber fn (mixKey key b) = mixFrameNumber fn (mixKey key c) → b = c) ∧
  (∀ build : Build, seed build 0 0 ⟨0, 0, 0⟩ = ⟨0, 0, 0⟩)

/-- R62, R63, R64: bit 7 - t of keystream byte k is the XOR of the registers' most-significant bits after
8k + t + 1 majority cycles (the cycle comes before the output, bits go most significant first, 57 bytes
continuously), and the frame takes 456 cycles. -/
def Obligations.KeystreamFrameBits : Prop :=
  ∀ (bug : Bool) (b : Bank),
    (∀ (k : Nat) (hk : k < 57) (t : Nat), t < 8 →
      ((keystreamFrame bug b).1[k]).getLsbD (7 - t) =
        (((majorityCycle bug)^[8 * k + t + 1] b).r1.getLsbD 18 ^^
          ((majorityCycle bug)^[8 * k + t + 1] b).r2.getLsbD 21 ^^
          ((majorityCycle bug)^[8 * k + t + 1] b).r3.getLsbD 22)) ∧
    (keystreamFrame bug b).2 = (majorityCycle bug)^[456] b

/-! ### The commands (41_generator_commands.md, 42_frame_cipher.md) -/

/-- R66: NOP does nothing; while BUSY = 1 it sets ERR_BUSY and nothing else. -/
def Obligations.NopRule : Prop :=
  ∀ s : State,
    (s.busy = false → exec .nop s = .next s) ∧
    (s.busy = true → exec .nop s = .next { s with errBusy := true })

/-- R67: CONSTRUCT takes the staged key and frame number when FRAME_IN < 2^22; otherwise it sets
ERR_SEED, PHASE = NONE and KSV = 0 and keeps KEY, FN, FBASE and FIDX; BusyError while BUSY = 1. Nothing
else changes (R1, R2, R3, KS and DATA among it). -/
def Obligations.ConstructRule : Prop :=
  ∀ s : State,
    (s.busy = false → s.frameIn.toNat < 2 ^ 22 →
      exec .construct s = .next { s with
        ksv := false
        key := s.keyHi ++ s.keyLo
        fn := s.frameIn.extractLsb' 0 22
        fbase := s.frameIn.extractLsb' 0 22
        fidx := 0
        phase := .constructed }) ∧
    (s.busy = false → 2 ^ 22 ≤ s.frameIn.toNat →
      exec .construct s = .next { s with ksv := false, phase := .none, errSeed := true }) ∧
    (s.busy = true → exec .construct s = .next { s with errBusy := true })

/-- R68: INIT, admitted unless PHASE = NONE, goes pending with KSV = 0, and the sequencer's step then seeds
R1, R2, R3 over their contents and sets PHASE = SEEDED; StateError in NONE, BusyError while BUSY = 1. -/
def Obligations.InitRule : Prop :=
  ∀ s : State,
    (s.busy = false → s.phase ≠ .none →
      exec .init s = .next { s with pending := some .init, ksv := false } ∧
      step ({ s with pending := some .init, ksv := false }.withNext .sequencer) = .next { s with
        bank := seed s.build s.key s.fn s.bank
        ksv := false
        phase := .seeded
        pending := none }) ∧
    (s.busy = false → s.phase = .none → exec .init s = .next { s with errState := true }) ∧
    (s.busy = true → exec .init s = .next { s with errBusy := true })

/-- R69: GET_FRAME, admitted in SEEDED and EXTRACTING, goes pending with KSV = 0, and the sequencer's step
then puts the next 57 keystream bytes in KS, sets KSV = 1 and PHASE = EXTRACTING; StateError in NONE and
CONSTRUCTED, BusyError while BUSY = 1. -/
def Obligations.GetFrameRule : Prop :=
  ∀ s : State,
    (s.busy = false → (s.phase = .seeded ∨ s.phase = .extracting) →
      exec .getFrame s = .next { s with pending := some .getFrame, ksv := false } ∧
      step ({ s with pending := some .getFrame, ksv := false }.withNext .sequencer) = .next { s with
        bank := (keystreamFrame s.build.r3BugCompat s.bank).2
        ks := (keystreamFrame s.build.r3BugCompat s.bank).1
        ksv := true
        phase := .extracting
        pending := none }) ∧
    (s.busy = false → (s.phase = .none ∨ s.phase = .constructed) →
      exec .getFrame s = .next { s with errState := true }) ∧
    (s.busy = true → exec .getFrame s = .next { s with errBusy := true })

/-- R70: INC_FRAME, admitted unless PHASE = NONE, advances FN modulo 2^22 and sets FN_WRAP when FN was
2^22 - 1; StateError in NONE, BusyError while BUSY = 1. -/
def Obligations.IncFrameRule : Prop :=
  ∀ s : State,
    (s.busy = false → s.phase ≠ .none → s.fn ≠ 0x3FFFFF →
      exec .incFrame s = .next { s with fn := BitVec.ofNat 22 (s.fn.toNat + 1) } ∧
        (BitVec.ofNat 22 (s.fn.toNat + 1)).toNat = s.fn.toNat + 1) ∧
    (s.busy = false → s.phase ≠ .none → s.fn = 0x3FFFFF →
      exec .incFrame s = .next { s with fn := 0, fnWrap := true }) ∧
    (s.busy = false → s.phase = .none → exec .incFrame s = .next { s with errState := true }) ∧
    (s.busy = true → exec .incFrame s = .next { s with errBusy := true })

/-- R75, R76: CIPHER_FRAME with LEN in 1 to 57, admitted unless PHASE = NONE, goes pending with KSV = 0; the
sequencer's step then sets FN = (FBASE + FIDX) mod 2^22 (FN_WRAP when the sum passes 2^22 - 1), seeds,
fills KS with a whole frame, XORs it into DATA[0..LEN) and nothing beyond, advances FIDX modulo 2^32 and
sets KSV = 1 and PHASE = EXTRACTING. CommandError for any other LEN, StateError in NONE, BusyError while
BUSY = 1. -/
def Obligations.CipherFrameRule : Prop :=
  ∀ (len : BitVec 6) (s : State),
    (s.busy = false → 1 ≤ len.toNat → len.toNat ≤ 57 → s.phase ≠ .none →
      exec (.cipherFrame len) s = .next { s with pending := some (.cipherFrame len), ksv := false } ∧
      ∃ t : State,
        step ({ s with pending := some (.cipherFrame len), ksv := false }.withNext .sequencer) = .next t ∧
        t.fn.toNat = (s.fbase.toNat + s.fidx.toNat) % 2 ^ 22 ∧
        t.fnWrap = (s.fnWrap || decide (2 ^ 22 ≤ s.fbase.toNat + s.fidx.toNat)) ∧
        t.bank = (keystreamFrame s.build.r3BugCompat (seed s.build s.key t.fn s.bank)).2 ∧
        t.ks = (keystreamFrame s.build.r3BugCompat (seed s.build s.key t.fn s.bank)).1 ∧
        (∀ (k : Nat) (hk : k < 57),
          t.data[k] = if k < len.toNat then s.data[k] ^^^ t.ks[k] else s.data[k]) ∧
        t.fidx.toNat = (s.fidx.toNat + 1) % 2 ^ 32 ∧
        t.ksv = true ∧ t.phase = .extracting ∧ t.pending = none ∧
        t = { s with fn := t.fn, fnWrap := t.fnWrap, bank := t.bank, ks := t.ks, data := t.data,
                     fidx := t.fidx, ksv := t.ksv, phase := t.phase, pending := t.pending }) ∧
    (s.busy = false → (len.toNat = 0 ∨ 57 < len.toNat) →
      exec (.cipherFrame len) s = .next { s with errCmd := true }) ∧
    (s.busy = false → 1 ≤ len.toNat → len.toNat ≤ 57 → s.phase = .none →
      exec (.cipherFrame len) s = .next { s with errState := true }) ∧
    (s.busy = true → exec (.cipherFrame len) s = .next { s with errBusy := true })

/-- R71, R96: SRESET, also while BUSY = 1, gives every piece of the block's state its reset value; CONFIG
does not change (nor P_BASE, nor the model's own inputs, rdata and draws: log 9), and STATUS then reads
0x00000000. An SRESET word with a
nonzero LEN or a reserved bit resets nothing: BusyError or CommandError. -/
def Obligations.SresetRule : Prop :=
  ∀ s : State,
    exec .sreset s = .next {
      build := s.build, bank := ⟨0, 0, 0⟩, key := 0, fn := 0, fbase := 0, fidx := 0, phase := .none,
      ks := Vector.replicate 57 0, ksv := false, data := Vector.replicate 57 0, keyLo := 0, keyHi := 0,
      frameIn := 0, pending := none, errSeed := false, errState := false, errCmd := false, errBusy := false,
      fnWrap := false, inputs := s.inputs, rdata := s.rdata, draws := s.draws } ∧
    (∀ t, exec .sreset s = .next t → t.busy = false ∧ t.statusWord = 0 ∧ t.configWord = s.configWord) ∧
    (∀ v : Word, v.extractLsb' 0 4 = 6 → v ≠ 6 →
      step (s.withNext (s.writeInput 0 v)) =
        .next (if s.busy then { s with errBusy := true } else { s with errCmd := true }))

/-- 70_reset_and_hazards.md R95: the reset input sets the same state as SRESET, at once, whatever is pending, and no command runs. -/
def Obligations.ResetInputIsSreset : Prop :=
  ∀ s : State, step (s.withNext .reset) = exec .sreset s ∧
    ∃ t : State, step (s.withNext .reset) = .next t ∧ t.pending = none ∧ t.phase = .none ∧ t.statusWord = 0

/-- R87, with legality as in R49 and admission as in R65: one CMD write is tested in the order legal SRESET,
BUSY, illegal word, phase, CONSTRUCT's bound, and only the first that applies is reported: it sets one error
bit, never with FN_WRAP; a command that runs sets no error bit. -/
def Obligations.DispatchPriority : Prop :=
  ∀ (s : State) (v : Word),
    let legal := v.extractLsb' 14 18 = 0 ∧ v.extractLsb' 4 4 = 0 ∧ (v.extractLsb' 0 4).toNat ≤ 6 ∧
      (if v.extractLsb' 0 4 = 5 then 1 ≤ (v.extractLsb' 8 6).toNat ∧ (v.extractLsb' 8 6).toNat ≤ 57
        else v.extractLsb' 8 6 = 0)
    let op := v.extractLsb' 0 4
    let admitted := (op = 2 ∨ op = 4 ∨ op = 5 → s.phase ≠ .none) ∧
      (op = 3 → s.phase = .seeded ∨ s.phase = .extracting)
    ∃ t : State, step (s.withNext (s.writeInput 0 v)) = .next t ∧
      (legal ∧ op = 6 → exec .sreset s = .next t) ∧
      (¬ (legal ∧ op = 6) → s.busy = true → t = { s with errBusy := true }) ∧
      (s.busy = false → ¬ legal → t = { s with errCmd := true }) ∧
      (s.busy = false → legal → op ≠ 6 → ¬ admitted → t = { s with errState := true }) ∧
      (s.busy = false → legal → op = 1 → 2 ^ 22 ≤ s.frameIn.toNat →
        t = { s with ksv := false, phase := .none, errSeed := true }) ∧
      (s.busy = false → legal → op ≠ 6 → admitted → ¬ (op = 1 ∧ 2 ^ 22 ≤ s.frameIn.toNat) →
        t.errBusy = s.errBusy ∧ t.errCmd = s.errCmd ∧ t.errState = s.errState ∧ t.errSeed = s.errSeed)

/-- R72: the phase after each command, by the phase before it: CONSTRUCT (ok and failing), INC_FRAME, NOP
and SRESET at their CMD write, INIT, GET_FRAME and CIPHER_FRAME at their completion, for which an admitted
one goes pending; a refused command leaves the phase and everything but its error bit as it was. -/
def Obligations.PhaseTable : Prop :=
  (∀ s t : State, s.busy = false → exec .construct s = .next t →
    t.phase = if s.frameIn.toNat < 2 ^ 22 then .constructed else .none) ∧
  (∀ s t : State, exec .incFrame s = .next t ∨ exec .nop s = .next t → t.phase = s.phase) ∧
  (∀ s t : State, exec .sreset s = .next t → t.phase = .none) ∧
  (∀ (s t : State) (i : Instr),
    exec i s = .next t → i = .init ∨ i = .getFrame ∨ (∃ len, i = .cipherFrame len) → t.phase = s.phase) ∧
  (∀ s t : State, step (s.withNext .sequencer) = .next t →
    (s.pending = some .init → t.phase = .seeded) ∧
    (s.pending = some .getFrame → t.phase = .extracting) ∧
    (∀ len, s.pending = some (.cipherFrame len) → t.phase = .extracting)) ∧
  (∀ s : State, s.busy = false → s.phase = .none →
    exec .init s = .next { s with errState := true } ∧
    exec .getFrame s = .next { s with errState := true } ∧
    exec .incFrame s = .next { s with errState := true } ∧
    (∀ len : BitVec 6, 1 ≤ len.toNat → len.toNat ≤ 57 →
      exec (.cipherFrame len) s = .next { s with errState := true })) ∧
  (∀ s : State, s.busy = false → s.phase = .constructed →
    exec .getFrame s = .next { s with errState := true }) ∧
  (∀ s : State, s.busy = false → s.phase ≠ .none →
    exec .init s = .next { s with pending := some .init, ksv := false } ∧
    (∀ len : BitVec 6, 1 ≤ len.toNat → len.toNat ≤ 57 →
      exec (.cipherFrame len) s = .next { s with pending := some (.cipherFrame len), ksv := false }) ∧
    (s.phase ≠ .constructed → exec .getFrame s = .next { s with pending := some .getFrame, ksv := false })) ∧
  (∀ (s : State) (i : Instr), s.busy = true → i ≠ .sreset → exec i s = .next { s with errBusy := true })

/-! ### Frames of the commands -/

/-- Frame of the CMD writes of NOP and INC_FRAME: of the whole state, NOP changes at most ERR_BUSY, and
INC_FRAME at most FN, FN_WRAP, ERR_STATE and ERR_BUSY; every buffer byte reads as before. -/
def Obligations.FrameOfNopAndIncFrame : Prop :=
  (∀ s t : State, exec .nop s = .next t →
    t = { s with errBusy := t.errBusy } ∧ ∀ off, t.bufferByte off = s.bufferByte off) ∧
  (∀ s t : State, exec .incFrame s = .next t →
    t = { s with fn := t.fn, fnWrap := t.fnWrap, errState := t.errState, errBusy := t.errBusy } ∧
    ∀ off, t.bufferByte off = s.bufferByte off)

/-- Frame of CONSTRUCT: it changes at most KEY, FN, FBASE, FIDX, PHASE, KSV, ERR_SEED and ERR_BUSY; R1, R2,
R3 and every buffer byte stay. -/
def Obligations.FrameOfConstruct : Prop :=
  ∀ s t : State, exec .construct s = .next t →
    t = { s with key := t.key, fn := t.fn, fbase := t.fbase, fidx := t.fidx, phase := t.phase,
                 ksv := t.ksv, errSeed := t.errSeed, errBusy := t.errBusy } ∧
    ∀ off, t.bufferByte off = s.bufferByte off

/-- Frame of the CMD writes of INIT, GET_FRAME and CIPHER_FRAME: they change at most PENDING, KSV and the
error bits ERR_STATE, ERR_CMD and ERR_BUSY; registers, context and every buffer byte stay until the
completion. -/
def Obligations.FrameOfSequencedWrites : Prop :=
  ∀ (s t : State) (i : Instr),
    i = .init ∨ i = .getFrame ∨ (∃ len, i = .cipherFrame len) → exec i s = .next t →
      t = { s with pending := t.pending, ksv := t.ksv, errState := t.errState, errCmd := t.errCmd,
                   errBusy := t.errBusy } ∧
      ∀ off, t.bufferByte off = s.bufferByte off

/-- Frame of the completions: INIT changes at most R1, R2, R3, PHASE and PENDING; GET_FRAME also KS and KSV,
and no byte outside KS; CIPHER_FRAME also FN, FN_WRAP, FIDX and DATA, and no byte outside KS and
DATA[0..LEN). No completion sets an error bit or changes KEY, FBASE or the staging registers. -/
def Obligations.FrameOfCompletions : Prop :=
  ∀ s t : State, step (s.withNext .sequencer) = .next t →
    (s.pending = some .init →
      t = { s with bank := t.bank, phase := t.phase, pending := none } ∧
      ∀ off, t.bufferByte off = s.bufferByte off) ∧
    (s.pending = some .getFrame →
      t = { s with bank := t.bank, phase := t.phase, pending := none, ks := t.ks, ksv := t.ksv } ∧
      ∀ off, ¬ (0x100 ≤ off ∧ off < 0x100 + 57) → t.bufferByte off = s.bufferByte off) ∧
    (∀ len, s.pending = some (.cipherFrame len) →
      t = { s with bank := t.bank, phase := t.phase, pending := none, ks := t.ks, ksv := t.ksv,
                   fn := t.fn, fnWrap := t.fnWrap, fidx := t.fidx, data := t.data } ∧
      ∀ off, ¬ (0x100 ≤ off ∧ off < 0x100 + 57) → ¬ (0x200 ≤ off ∧ off < 0x200 + len.toNat) →
        t.bufferByte off = s.bufferByte off)

/-! ### Encoding (30_encoding.md) -/

/-- Words written out from R47, R48 and R50 decode to the commands they stand for. -/
def Obligations.WrittenOutWordsDecode : Prop :=
  decode 0b00000000000000000000000000000000 = .ok .nop ∧
  decode 0b00000000000000000000000000000001 = .ok .construct ∧
  decode 0b00000000000000000000000000000010 = .ok .init ∧
  decode 0b00000000000000000000000000000011 = .ok .getFrame ∧
  decode 0b00000000000000000000000000000100 = .ok .incFrame ∧
  decode 0b00000000000000000011100100000101 = .ok (.cipherFrame 57) ∧
  decode 0b00000000000000000000000100000101 = .ok (.cipherFrame 1) ∧
  decode 0b00000000000000000000000000000110 = .ok .sreset

/-- Decode and encode agree, both ways: every well-formed command's word decodes to it with its LEN, and a
word that decodes is the one word of its well-formed command. -/
def Obligations.DecodeEncodeRoundTrip : Prop :=
  (∀ i : Instr, i.wf = true → decode (encode i) = .ok i) ∧
  (∀ (v : Word) (i : Instr), decode v = .ok i → i.wf = true ∧ encode i = v)

/-- spec/opcode_table.json: a word that decodes to a row's command matches the row under the row's mask. -/
def Obligations.DecodeMatchesOpcodeTable : Prop :=
  ∀ v : Word,
    (decode v = .ok .nop → v &&& 0xFFFFFFFF = 0x00000000) ∧
    (decode v = .ok .construct → v &&& 0xFFFFFFFF = 0x00000001) ∧
    (decode v = .ok .init → v &&& 0xFFFFFFFF = 0x00000002) ∧
    (decode v = .ok .getFrame → v &&& 0xFFFFFFFF = 0x00000003) ∧
    (decode v = .ok .incFrame → v &&& 0xFFFFFFFF = 0x00000004) ∧
    (∀ len, decode v = .ok (.cipherFrame len) → v &&& 0xFFFFC0FF = 0x00000005 ∧ v = 0x00000005 ||| (len.setWidth 32 <<< 8)) ∧
    (decode v = .ok .sreset → v &&& 0xFFFFFFFF = 0x00000006)

/-! ### The step -/

/-- A step whose next input is a CMD write of a word that decodes to i is exec of i, with nothing around it:
the write leaves the input list and that is all (R44, R65; log 2). The command may be written at any of
the offsets 0 to 3 (R32). -/
def Obligations.StepRunsDecodedCommand : Prop :=
  ∀ (s : State) (i : Instr),
    (∀ w : Nat, decode (BitVec.ofNat 32 w) = .ok i → w < 2 ^ 32 → step (s.withFetchWord 32 w) = exec i s) ∧
    (∀ (v : Word) (off : Nat), decode v = .ok i → off < 4 → step (s.withNext (s.writeInput off v)) = exec i s)

/-- R49, R82: a word is a command exactly when its reserved bits are zero, OP is at most 6, and LEN is 1 to 57
for CIPHER_FRAME and 0 for every other OP; writing any other word sets ERR_CMD and nothing else, ERR_BUSY
instead when BUSY = 1. -/
def Obligations.LegalWordsRule : Prop :=
  ∀ v : Word,
    let legal := v.extractLsb' 14 18 = 0 ∧ v.extractLsb' 4 4 = 0 ∧ (v.extractLsb' 0 4).toNat ≤ 6 ∧
      (if v.extractLsb' 0 4 = 5 then 1 ≤ (v.extractLsb' 8 6).toNat ∧ (v.extractLsb' 8 6).toNat ≤ 57
        else v.extractLsb' 8 6 = 0)
    ((∃ i, decode v = .ok i) ↔ legal) ∧
    (¬ legal → ∀ s : State,
      (s.busy = false → step (s.withNext (s.writeInput 0 v)) = .next { s with errCmd := true }) ∧
      (s.busy = true → step (s.withNext (s.writeInput 0 v)) = .next { s with errBusy := true }))

/-- 20_memory.md R32, 60_exceptions.md R86: no access is ever refused and there is no trap: every step of every state answers a next state. -/
def Obligations.NoStepStops : Prop :=
  ∀ s : State, ∃ t, step s = .next t

/-- 41_generator_commands.md R73: the sequencer's step empties PENDING. That the step taken when no input is left
is this same step (so that it completes the pending command with all its effects), and that a turn with nothing
pending changes nothing, is the model's choice (log 3). -/
def Obligations.SequencerTurn : Prop :=
  ∀ s : State,
    (∃ t, step (s.withNext .sequencer) = .next t ∧ t.pending = none ∧ t.busy = false ∧ t.inputs = s.inputs) ∧
    (s.inputs = [] → step s = step (s.withNext .sequencer)) ∧
    (s.pending = none → step (s.withNext .sequencer) = .next s) ∧
    (s.inputs = [] → s.pending = none → step s = .next s)

/-- 41_generator_commands.md R73 (weak fairness, in the model's form, log 3): BUSY falls. Whatever is pending and
whatever inputs are still to come, after as many steps as there are inputs and one more nothing is pending and
BUSY = 0. It does not say that the command completed, since a reset, an SRESET or a loss of power among the
inputs abandons it; PendingCommandCompletesUnlessReset says when it completes. -/
def Obligations.BusyFallsWhateverTheInputs : Prop :=
  ∀ s : State, ∃ t : State, Host.Core.run Sys2Proof.core (s.inputs.length + 1) s = .next t ∧
    t.inputs = [] ∧ t.pending = none ∧ t.busy = false

/-! ### The register window (20_memory.md) -/

/-- R36: what a read returns when BUSY = 0, for every offset of the window; a read changes nothing else. -/
def Obligations.ReadWhenIdle : Prop :=
  ∀ (s : State) (off : Nat), s.busy = false → off < 4096 →
    ∃ v : Word, step (s.withNext (s.readInput off)) = .next { s with rdata := v } ∧
      (off &&& 0xFFC = 0x000 → v = 0) ∧
      (off &&& 0xFFC = 0x004 → v.toNat = 2 * s.phase.bits.toNat + 8 * s.ksv.toNat + 2 ^ 8 * s.errSeed.toNat
        + 2 ^ 9 * s.errState.toNat + 2 ^ 10 * s.errCmd.toNat + 2 ^ 11 * s.errBusy.toNat
        + 2 ^ 12 * s.fnWrap.toNat) ∧
      (off &&& 0xFFC = 0x008 ∨ off &&& 0xFFC = 0x00C → v = 0) ∧
      (off &&& 0xFFC = 0x010 → v = s.frameIn) ∧
      (off &&& 0xFFC = 0x014 → v.toNat = s.fn.toNat) ∧
      (off &&& 0xFFC = 0x018 → v.toNat = s.fbase.toNat) ∧
      (off &&& 0xFFC = 0x01C → v = s.fidx) ∧
      (off &&& 0xFFC = 0x020 → v.toNat = s.build.r3BugCompat.toNat + 2 * s.build.clearOnInit.toNat) ∧
      (∀ j, j < 15 → off &&& 0xFFC = 0x100 + 4 * j →
        v.toNat = (byteOf s.ks (4 * j)).toNat + 2 ^ 8 * (byteOf s.ks (4 * j + 1)).toNat
          + 2 ^ 16 * (byteOf s.ks (4 * j + 2)).toNat + 2 ^ 24 * (byteOf s.ks (4 * j + 3)).toNat) ∧
      (∀ j, j < 15 → off &&& 0xFFC = 0x200 + 4 * j →
        v.toNat = (byteOf s.data (4 * j)).toNat + 2 ^ 8 * (byteOf s.data (4 * j + 1)).toNat
          + 2 ^ 16 * (byteOf s.data (4 * j + 2)).toNat + 2 ^ 24 * (byteOf s.data (4 * j + 3)).toNat) ∧
      (0x024 ≤ off ∧ off < 0x100 ∨ 0x13C ≤ off ∧ off < 0x200 ∨ 0x23C ≤ off → v = 0)

/-- R37: while BUSY = 1 reads of FN, FIDX, KS and DATA words return a fresh free value, and every other read
the value it has when idle; STATUS then reads BUSY = 1, KSV = 0 and the phase and error bits as they
stand. -/
def Obligations.ReadWhileBusy : Prop :=
  ∀ (s : State) (off : Nat), s.busy = true → off < 4096 →
    (off &&& 0xFFC = 0x014 ∨ off &&& 0xFFC = 0x01C ∨ 0x100 ≤ off ∧ off < 0x13C ∨ 0x200 ≤ off ∧ off < 0x23C →
      step (s.withNext (s.readInput off)) =
        .next { s with rdata := Config.freeValue s.draws, draws := s.draws + 1 }) ∧
    (¬ (off &&& 0xFFC = 0x014 ∨ off &&& 0xFFC = 0x01C ∨ 0x100 ≤ off ∧ off < 0x13C ∨ 0x200 ≤ off ∧ off < 0x23C) →
      ∃ v : Word, step (s.withNext (s.readInput off)) = .next { s with rdata := v } ∧
        (off &&& 0xFFC = 0x010 → v = s.frameIn) ∧
        (off &&& 0xFFC = 0x018 → v.toNat = s.fbase.toNat) ∧
        (off &&& 0xFFC = 0x020 → v.toNat = s.build.r3BugCompat.toNat + 2 * s.build.clearOnInit.toNat) ∧
        (off &&& 0xFFC = 0x004 → s.Inv →
          v.toNat = 1 + 2 * s.phase.bits.toNat + 2 ^ 8 * s.errSeed.toNat + 2 ^ 9 * s.errState.toNat
            + 2 ^ 10 * s.errCmd.toNat + 2 ^ 11 * s.errBusy.toNat + 2 ^ 12 * s.fnWrap.toNat) ∧
        (off &&& 0xFFC ≠ 0x010 → off &&& 0xFFC ≠ 0x018 → off &&& 0xFFC ≠ 0x020 → off &&& 0xFFC ≠ 0x004 → v = 0))

/-- R38: what a write does when BUSY = 0, at every offset: a CMD write of a command runs it, of any other word
sets ERR_CMD. -/
def Obligations.WriteWhenIdle : Prop :=
  ∀ (s : State) (off : Nat) (v : Word), s.busy = false → off < 4096 →
    (off &&& 0xFFC = 0x000 →
      (∀ i, decode v = .ok i → step (s.withNext (s.writeInput off v)) = exec i s) ∧
      ((∀ i, decode v ≠ .ok i) → step (s.withNext (s.writeInput off v)) = .next { s with errCmd := true })) ∧
    (off &&& 0xFFC = 0x004 → step (s.withNext (s.writeInput off v)) = .next { s with
      errSeed := s.errSeed && !v.getLsbD 8
      errState := s.errState && !v.getLsbD 9
      errCmd := s.errCmd && !v.getLsbD 10
      errBusy := s.errBusy && !v.getLsbD 11
      fnWrap := s.fnWrap && !v.getLsbD 12 }) ∧
    (off &&& 0xFFC = 0x008 → step (s.withNext (s.writeInput off v)) = .next { s with keyLo := v }) ∧
    (off &&& 0xFFC = 0x00C → step (s.withNext (s.writeInput off v)) = .next { s with keyHi := v }) ∧
    (off &&& 0xFFC = 0x010 → step (s.withNext (s.writeInput off v)) = .next { s with frameIn := v }) ∧
    (∀ j, j < 15 → off &&& 0xFFC = 0x200 + 4 * j →
      ∃ d : Buffer, step (s.withNext (s.writeInput off v)) = .next { s with data := d } ∧
        ∀ (k : Nat) (hk : k < 57),
          d[k] = if 4 * j ≤ k ∧ k < 4 * j + 4 then v.extractLsb' (8 * (k - 4 * j)) 8 else s.data[k]) ∧
    (0x014 ≤ off ∧ off < 0x200 ∨ 0x23C ≤ off → step (s.withNext (s.writeInput off v)) = .next s)

/-- R39: while BUSY = 1 a DATA write only sets ERR_BUSY; writes to STATUS and the staging registers take
effect; a CMD write other than a legal SRESET only sets ERR_BUSY; all other writes have no effect. -/
def Obligations.WriteWhileBusy : Prop :=
  ∀ (s : State) (off : Nat) (v : Word), s.busy = true → off < 4096 →
    (0x200 ≤ off ∧ off < 0x23C → step (s.withNext (s.writeInput off v)) = .next { s with errBusy := true }) ∧
    (off &&& 0xFFC = 0x004 → step (s.withNext (s.writeInput off v)) = .next { s with
      errSeed := s.errSeed && !v.getLsbD 8
      errState := s.errState && !v.getLsbD 9
      errCmd := s.errCmd && !v.getLsbD 10
      errBusy := s.errBusy && !v.getLsbD 11
      fnWrap := s.fnWrap && !v.getLsbD 12 }) ∧
    (off &&& 0xFFC = 0x008 → step (s.withNext (s.writeInput off v)) = .next { s with keyLo := v }) ∧
    (off &&& 0xFFC = 0x00C → step (s.withNext (s.writeInput off v)) = .next { s with keyHi := v }) ∧
    (off &&& 0xFFC = 0x010 → step (s.withNext (s.writeInput off v)) = .next { s with frameIn := v }) ∧
    (off &&& 0xFFC = 0x000 → v ≠ 0x00000006 →
      step (s.withNext (s.writeInput off v)) = .next { s with errBusy := true }) ∧
    (off &&& 0xFFC = 0x000 → v = 0x00000006 → step (s.withNext (s.writeInput off v)) = exec .sreset s) ∧
    (0x014 ≤ off ∧ off < 0x200 ∨ 0x23C ≤ off → step (s.withNext (s.writeInput off v)) = .next s)

/-- R32: an access at an offset acts on the word at off & 0xFFC, for reads and writes of the whole window,
and none is refused. -/
def Obligations.OffsetLowBitsIgnored : Prop :=
  ∀ (s : State) (off : Nat) (v : Word), off < 4096 →
    step (s.withNext (s.readInput off)) = step (s.withNext (s.readInput (off &&& 0xFFC))) ∧
    step (s.withNext (s.writeInput off v)) = step (s.withNext (s.writeInput (off &&& 0xFFC) v)) ∧
    (∃ t, step (s.withNext (s.readInput off)) = .next t) ∧
    (∃ t, step (s.withNext (s.writeInput off v)) = .next t)

/-- 20_memory.md R31: an access outside the 4096-byte window at P_BASE does not reach the block. R31 does not say
what the host then reads: that such a read leaves `rdata`, the model's own field, as it was is the model's
choice (log 6). -/
def Obligations.OutsideWindowDoesNotReach : Prop :=
  ∀ (s : State) (addr : Nat) (v : Word), addr < pBase s.build ∨ pBase s.build + 4096 ≤ addr →
    step (s.withNext (.read addr)) = .next s ∧ step (s.withNext (.write addr v)) = .next s

/-- 20_memory.md R33: byte k of KS and of DATA stands in bits 8(k mod 4) + 7 to 8(k mod 4) of the word at base +
4 (k / 4), and the word at base + 0x38 has only bits 7:0 backed. -/
def Obligations.BufferWordsAreLittleEndian : Prop :=
  ∀ s : State, s.busy = false →
    (∀ (k : Nat) (hk : k < 57), ∃ x y : Word,
      step (s.withNext (s.readInput (0x100 + k))) = .next { s with rdata := x } ∧
      x.extractLsb' (8 * (k % 4)) 8 = s.ks[k] ∧
      step (s.withNext (s.readInput (0x200 + k))) = .next { s with rdata := y } ∧
      y.extractLsb' (8 * (k % 4)) 8 = s.data[k]) ∧
    (∃ x y : Word,
      step (s.withNext (s.readInput 0x138)) = .next { s with rdata := x } ∧ x.extractLsb' 8 24 = 0 ∧
      step (s.withNext (s.readInput 0x238)) = .next { s with rdata := y } ∧ y.extractLsb' 8 24 = 0)

/-- 20_memory.md R33, R38: a DATA word written when idle reads back as written, of the last word only its low
byte. -/
def Obligations.DataWordReadsBack : Prop :=
  ∀ (s : State) (j : Nat) (v : Word), s.busy = false → j < 15 →
    ∃ t : State, step (s.withNext (s.writeInput (0x200 + 4 * j) v)) = .next t ∧
      step (t.withNext (t.readInput (0x200 + 4 * j))) =
        .next { t with rdata := if j = 14 then v &&& 0xFF else v }

/-- R40: a read, at any address and busy or not, changes no state of the block (at most what the host got and
the count of free values drawn); a write twice over, other than to CMD and STATUS, is as once. -/
def Obligations.AccessSideEffects : Prop :=
  (∀ (s : State) (addr : Nat), ∃ (r : Word) (d : Nat),
    step (s.withNext (.read addr)) = .next { s with rdata := r, draws := d }) ∧
  (∀ (s : State) (off : Nat) (v : Word), 8 ≤ off → off < 4096 →
    ∃ t : State, step (s.withNext (s.writeInput off v)) = .next t ∧
      step (t.withNext (t.writeInput off v)) = .next t)

/-! ### Whole-machine rules -/

/-- The invariant holds after reset. -/
def Obligations.InvHoldsAtReset : Prop :=
  ∀ b : Build, (State.resetOf b).Inv

/-- Every step but a loss of power keeps the invariant: a pending command was admitted in the phase that
STATUS shows, has a legal LEN and has cleared KSV, and KSV = 1 only in EXTRACTING (R22, R37, R65, R72).
After a loss of power the state is free until reset (log 8), so that input is the one shut out. -/
def Obligations.StepKeepsInv : Prop :=
  ∀ s t : State, s.Inv → s.inputs.head? ≠ some .powerLoss → step s = .next t → t.Inv

/-- R24: CONFIG reads bit 0 = P_R3_BUG_COMPAT, bit 1 = P_CLEAR_ON_INIT and 0 above, busy or not, and no step
changes it, reset among them. -/
def Obligations.ConfigIsConstant : Prop :=
  (∀ s t : State, step s = .next t → t.build = s.build) ∧
  (∀ s : State, step (s.withNext (s.readInput 0x020)) = .next { s with
    rdata := BitVec.ofNat 32 (s.build.r3BugCompat.toNat + 2 * s.build.clearOnInit.toNat) })

/-- 10_state.md R17, R22: a host access other than an SRESET write changes neither R1, R2, R3 nor KS. -/
def Obligations.HostAccessKeepsRegistersAndKs : Prop :=
  ∀ (s t : State) (e : Input),
    (∃ addr, e = .read addr) ∨ (∃ addr v, e = .write addr v) → ¬ s.isSresetWrite e →
    step (s.withNext e) = .next t → t.bank = s.bank ∧ t.ks = s.ks

/-- 60_exceptions.md R88: a set bit of STATUS 8 to 12 stays set in every step other than a STATUS write with a 1 in
it, an SRESET write, a reset and a loss of power. The sequencer's steps are covered in both forms: its turn
among the inputs, and the step taken when no input is left (log 3). -/
def Obligations.StatusBitsAreSticky : Prop :=
  ∀ (s t : State) (e : Input), e ≠ .reset → e ≠ .powerLoss → ¬ s.isSresetWrite e →
    step (s.withNext e) = .next t ∨ (e = .sequencer ∧ s.inputs = [] ∧ step s = .next t) →
    let cleared := fun b => ∃ off v, 4 ≤ off ∧ off < 8 ∧ e = s.writeInput off v ∧ v.getLsbD b = true
    (s.errSeed = true → t.errSeed = true ∨ cleared 8) ∧
    (s.errState = true → t.errState = true ∨ cleared 9) ∧
    (s.errCmd = true → t.errCmd = true ∨ cleared 10) ∧
    (s.errBusy = true → t.errBusy = true ∨ cleared 11) ∧
    (s.fnWrap = true → t.fnWrap = true ∨ cleared 12)

/-- 10_state.md R28 and 60_exceptions.md R80 to R84: each bit of STATUS 8 to 12 becomes set only by its named
cause (no other step but a loss of power, whose state is free, sets it). The sequencer's steps are covered in
both forms: its turn among the inputs, and the step taken when no input is left (log 3). -/
def Obligations.StatusBitsSetOnlyByTheirCauses : Prop :=
  ∀ (s t : State) (e : Input), e ≠ .powerLoss →
    step (s.withNext e) = .next t ∨ (e = .sequencer ∧ s.inputs = [] ∧ step s = .next t) →
    (t.errSeed = true → s.errSeed = false →
      s.busy = false ∧ 2 ^ 22 ≤ s.frameIn.toNat ∧ ∃ off, off < 4 ∧ e = s.writeInput off 0x00000001) ∧
    (t.errState = true → s.errState = false →
      s.busy = false ∧ ∃ off v i, off < 4 ∧ e = s.writeInput off v ∧ decode v = .ok i ∧
        (s.phase = .none ∧ (i = .init ∨ i = .incFrame ∨ ∃ len, i = .cipherFrame len) ∨
          (s.phase = .none ∨ s.phase = .constructed) ∧ i = .getFrame)) ∧
    (t.errCmd = true → s.errCmd = false →
      s.busy = false ∧ ∃ off v, off < 4 ∧ e = s.writeInput off v ∧ ∀ i, decode v ≠ .ok i) ∧
    (t.errBusy = true → s.errBusy = false →
      s.busy = true ∧ ((∃ off v, off < 4 ∧ e = s.writeInput off v ∧ v ≠ 0x00000006) ∨
        ∃ off v, 0x200 ≤ off ∧ off < 0x23C ∧ e = s.writeInput off v)) ∧
    (t.fnWrap = true → s.fnWrap = false →
      (s.busy = false ∧ s.fn = 0x3FFFFF ∧ ∃ off, off < 4 ∧ e = s.writeInput off 0x00000004) ∨
      (e = .sequencer ∧ (∃ len, s.pending = some (.cipherFrame len)) ∧
        2 ^ 22 ≤ s.fbase.toNat + s.fidx.toNat))

/-- 60_exceptions.md R90, R92 and 10_state.md R17, R19, R25: R1, R2, R3, KEY, KEY_LO and KEY_HI cannot be
told from outside by any step but a sequencer's: two states that differ in nothing else step, on the same
input, to two states that differ in nothing else, the value read among it. For a read of FN, FIDX, KS or DATA
while BUSY = 1 and for a loss of power this rests on the model's choice that two runs draw equal free values
at equal counts (logs 5 and 8): the spec gives `draw()` no law, so of those values it says only that the model
does not take them from the registers or the key. -/
def Obligations.SecretsReachTheHostOnlyThroughTheSequencer : Prop :=
  ∀ s t s' : State, s.SameToHost t → s.inputs ≠ [] → s.inputs.head? ≠ some .sequencer →
    step s = .next s' → ∃ t', step t = .next t' ∧ s'.SameToHost t'

/-- 20_memory.md R39: writes to KEY_LO, KEY_HI and FRAME_IN do not disturb a pending command: written before
or after the sequencer's step, the state is the same. -/
def Obligations.StagingWritesCommuteWithCompletion : Prop :=
  ∀ (s t u : State) (off : Nat) (v : Word), 8 ≤ off → off < 0x14 →
    step (s.withNext (s.writeInput off v)) = .next t → step (s.withNext .sequencer) = .next u →
    step (t.withNext .sequencer) = step (u.withNext (u.writeInput off v))

/-- 70_reset_and_hazards.md R102: the keystream and the registers never depend on DATA: two states that
differ in DATA alone complete to states that differ in DATA alone. -/
def Obligations.KeystreamIgnoresData : Prop :=
  ∀ (s t : State) (d : Buffer), step (s.withNext .sequencer) = .next t →
    ∃ e : Buffer, step ({ s with data := d }.withNext .sequencer) = .next { t with data := e }

/-- 42_frame_cipher.md R79: two CIPHER_FRAME completions with the same LEN from the same register contents,
key, base and index, the second on the first one's output, give the input back. -/
def Obligations.CipherFrameIsItsOwnInverse : Prop :=
  ∀ (s t u : State) (len : BitVec 6), s.pending = some (.cipherFrame len) →
    step (s.withNext .sequencer) = .next t →
    step ({ s with data := t.data }.withNext .sequencer) = .next u → u.data = s.data

/-- 42_frame_cipher.md R75: whatever FN holds before a CIPHER_FRAME (an INC_FRAME changes it) has no effect on
its completion, and the whole state but DATA does not depend on LEN. -/
def Obligations.CipherFrameIgnoresFnAndLen : Prop :=
  ∀ (s t : State) (len len' : BitVec 6) (f : BitVec 22), s.pending = some (.cipherFrame len) →
    step (s.withNext .sequencer) = .next t →
    step ({ s with fn := f }.withNext .sequencer) = .next t ∧
    ∃ d : Buffer, step ({ s with pending := some (.cipherFrame len') }.withNext .sequencer) =
      .next { t with data := d }

/-- 41_generator_commands.md R69: a second GET_FRAME with no INIT between continues the keystream: its KS holds
bytes 57 to 113 counted from the first one's start. -/
def Obligations.SecondFrameContinues : Prop :=
  ∀ s a b c d : State, s.busy = false →
    exec .getFrame s = .next a → a.pending = some .getFrame → step (a.withNext .sequencer) = .next b →
    exec .getFrame b = .next c → step (c.withNext .sequencer) = .next d →
    ∀ (k : Nat) (hk : k < 57) (t : Nat), t < 8 →
      (d.ks[k]).getLsbD (7 - t) =
        ((majorityCycle s.build.r3BugCompat)^[8 * (57 + k) + t + 1] s.bank).outputXor

/-- 41_generator_commands.md R74: the KS of INIT then GET_FRAME depends only on KEY, FN, the build and, unless
P_CLEAR_ON_INIT is true, the register contents before: equal in two states, they give equal KS. -/
def Obligations.KeystreamDependsOnlyOnSeed : Prop :=
  ∀ s s' a a' b b' c c' : State,
    s.pending = some .init → s'.pending = some .init → s.key = s'.key → s.fn = s'.fn → s.build = s'.build →
    (s.build.clearOnInit = true ∨ s.bank = s'.bank) →
    step (s.withNext .sequencer) = .next a → step (s'.withNext .sequencer) = .next a' →
    exec .getFrame a = .next b → exec .getFrame a' = .next b' →
    step (b.withNext .sequencer) = .next c → step (b'.withNext .sequencer) = .next c' →
    c.ks = c'.ks ∧ c.bank = c'.bank

/-- 60_exceptions.md R94 with 70_reset_and_hazards.md R95, R96: whatever a loss of power leaves (the model's
free values, log 8), a reset defines the whole state again. -/
def Obligations.ResetDefinesStateAfterPowerLoss : Prop :=
  ∀ s t u : State, step (s.withNext .powerLoss) = .next t → step (t.withNext .reset) = .next u →
    u = { State.resetOf s.build with inputs := s.inputs, rdata := s.rdata, draws := u.draws }

/-- 41_generator_commands.md R73 with 20_memory.md R39 (weak fairness, in the model's form, log 3): with no reset,
no SRESET write and no loss of power among the inputs still to come, a pending command completes: after at
most as many steps as there are inputs, and one more, BUSY = 0 and the results stand, computed from the operands
as they are now, whatever the host reads and writes in between: the registers and PHASE, with KS and DATA kept,
for INIT; the registers, KS, KSV and PHASE, with DATA kept, for GET_FRAME; FN, FN_WRAP when the sum passes
2^22 - 1, the registers, KS, DATA, FIDX, KSV and PHASE for CIPHER_FRAME. -/
def Obligations.PendingCommandCompletesUnlessReset : Prop :=
  ∀ s : State, s.busy = true →
    (∀ e ∈ s.inputs, e ≠ .reset ∧ e ≠ .powerLoss ∧ ¬ s.isSresetWrite e) →
    ∃ (n : Nat) (t : State), n ≤ s.inputs.length ∧ Host.Core.run Sys2Proof.core (n + 1) s = .next t ∧
      t.busy = false ∧
      (s.pending = some .init →
        t.bank = seed s.build s.key s.fn s.bank ∧ t.phase = .seeded ∧ t.ks = s.ks ∧ t.data = s.data) ∧
      (s.pending = some .getFrame →
        t.bank = (keystreamFrame s.build.r3BugCompat s.bank).2 ∧
        t.ks = (keystreamFrame s.build.r3BugCompat s.bank).1 ∧
        t.ksv = true ∧ t.phase = .extracting ∧ t.data = s.data) ∧
      (∀ len, s.pending = some (.cipherFrame len) →
        t.fn.toNat = (s.fbase.toNat + s.fidx.toNat) % 2 ^ 22 ∧
        (2 ^ 22 ≤ s.fbase.toNat + s.fidx.toNat → t.fnWrap = true) ∧
        t.bank = (keystreamFrame s.build.r3BugCompat (seed s.build s.key t.fn s.bank)).2 ∧
        t.ks = (keystreamFrame s.build.r3BugCompat (seed s.build s.key t.fn s.bank)).1 ∧
        (∀ (k : Nat) (hk : k < 57),
          t.data[k] = if k < len.toNat then s.data[k] ^^^ t.ks[k] else s.data[k]) ∧
        t.fidx.toNat = (s.fidx.toNat + 1) % 2 ^ 32 ∧ t.ksv = true ∧ t.phase = .extracting)
end

