-- ==== Sys2Proof/Laws/Lfsr.lean ====
section
/-! SUPPORT. Lemmas on the core operations (spec 40_lfsr_core.md). -/

namespace Sys2Proof.Machine

theorem shiftIn_getLsbD {w : Nat} (v : BitVec w) (x : Bool) (i : Nat) :
    (shiftIn v x).getLsbD i = (decide (i < w) && if i = 0 then x else v.getLsbD (i - 1)) := by
  by_cases hi : i < w
  · cases i with
    | zero => simp_all [shiftIn]
    | succ n =>
      have hn : n < w := by omega
      simp_all [shiftIn]
  · cases i <;> simp_all [shiftIn]

/-- Which register the register-3 branch shifts (R58, R59). -/
@[simp] theorem thirdBranch_false : thirdBranch false = .r3 := rfl
@[simp] theorem thirdBranch_true : thirdBranch true = .r1 := rfl

theorem clockIf_true (n : Reg) (b : Bank) : clockIf true n b = b.shift n (b.feedback n) := rfl
theorem clockIf_false (n : Reg) (b : Bank) : clockIf false n b = b := rfl

/-- n majority cycles are the n-fold iterate of one. -/
theorem majorityCycles_eq_iterate (bug : Bool) (n : Nat) (b : Bank) :
    majorityCycles bug n b = (majorityCycle bug)^[n] b := by
  induction n with
  | zero => rfl
  | succ n ih => rw [majorityCycles, ih]; exact (Function.iterate_succ_apply' _ n b).symm

theorem majorityCycles_add (bug : Bool) (m n : Nat) (b : Bank) :
    majorityCycles bug (m + n) b = majorityCycles bug m (majorityCycles bug n b) := by
  simp only [majorityCycles_eq_iterate, Function.iterate_add_apply]

/-- The registers after n output bits: n majority cycles. -/
theorem outputBits_bank (bug : Bool) (n : Nat) (b : Bank) :
    (outputBits bug n b).2 = majorityCycles bug n b := by
  induction n with
  | zero => rfl
  | succ n ih => simp only [outputBits, outputBit, ih, majorityCycles]

/-- The registers after n output bytes: 8 n majority cycles. -/
theorem outputBytes_bank (bug : Bool) (n : Nat) (b : Bank) :
    (outputBytes bug n b).2 = majorityCycles bug (8 * n) b := by
  induction n with
  | zero => rfl
  | succ n ih =>
    simp only [outputBytes, outputByte, outputBits_bank, ih]
    rw [← majorityCycles_add]
    congr 1
    omega

/-- A majority cycle is not injective, against the parenthesis of 90_conflicts.md C1 (log 13): these two
banks have the same successor. -/
theorem majorityCycle_not_injective :
    ∃ b c : Bank, b ≠ c ∧ majorityCycle false b = majorityCycle false c :=
  ⟨⟨0x00100, 0, 0⟩, ⟨0x00080, 0, 0⟩, by decide +kernel⟩

end Sys2Proof.Machine
end

