-- ==== Sys2Proof/Laws/State.lean ====
section
/-! SUPPORT. What each named update of State leaves in each field, one lemma a field, so that no proof
unfolds a record update. -/

namespace Sys2Proof.Machine

/-! ### raise -/

@[simp] theorem raise_build (e : ErrorKind) (s : State) : (raise e s).build = s.build := rfl
@[simp] theorem raise_bank (e : ErrorKind) (s : State) : (raise e s).bank = s.bank := rfl
@[simp] theorem raise_key (e : ErrorKind) (s : State) : (raise e s).key = s.key := rfl
@[simp] theorem raise_fn (e : ErrorKind) (s : State) : (raise e s).fn = s.fn := rfl
@[simp] theorem raise_fbase (e : ErrorKind) (s : State) : (raise e s).fbase = s.fbase := rfl
@[simp] theorem raise_fidx (e : ErrorKind) (s : State) : (raise e s).fidx = s.fidx := rfl
@[simp] theorem raise_phase (e : ErrorKind) (s : State) : (raise e s).phase = s.phase := rfl
@[simp] theorem raise_ks (e : ErrorKind) (s : State) : (raise e s).ks = s.ks := rfl
@[simp] theorem raise_ksv (e : ErrorKind) (s : State) : (raise e s).ksv = s.ksv := rfl
@[simp] theorem raise_data (e : ErrorKind) (s : State) : (raise e s).data = s.data := rfl
@[simp] theorem raise_keyLo (e : ErrorKind) (s : State) : (raise e s).keyLo = s.keyLo := rfl
@[simp] theorem raise_keyHi (e : ErrorKind) (s : State) : (raise e s).keyHi = s.keyHi := rfl
@[simp] theorem raise_frameIn (e : ErrorKind) (s : State) : (raise e s).frameIn = s.frameIn := rfl
@[simp] theorem raise_pending (e : ErrorKind) (s : State) : (raise e s).pending = s.pending := rfl
@[simp] theorem raise_errSeed (e : ErrorKind) (s : State) : (raise e s).errSeed = (s.errSeed || decide (e = .seed)) := rfl
@[simp] theorem raise_errState (e : ErrorKind) (s : State) : (raise e s).errState = (s.errState || decide (e = .state)) := rfl
@[simp] theorem raise_errCmd (e : ErrorKind) (s : State) : (raise e s).errCmd = (s.errCmd || decide (e = .command)) := rfl
@[simp] theorem raise_errBusy (e : ErrorKind) (s : State) : (raise e s).errBusy = (s.errBusy || decide (e = .busy)) := rfl
@[simp] theorem raise_fnWrap (e : ErrorKind) (s : State) : (raise e s).fnWrap = s.fnWrap := rfl
@[simp] theorem raise_inputs (e : ErrorKind) (s : State) : (raise e s).inputs = s.inputs := rfl
@[simp] theorem raise_rdata (e : ErrorKind) (s : State) : (raise e s).rdata = s.rdata := rfl
@[simp] theorem raise_draws (e : ErrorKind) (s : State) : (raise e s).draws = s.draws := rfl

/-! ### accept -/

@[simp] theorem accept_build (c : Pending) (s : State) : (accept c s).build = s.build := rfl
@[simp] theorem accept_bank (c : Pending) (s : State) : (accept c s).bank = s.bank := rfl
@[simp] theorem accept_key (c : Pending) (s : State) : (accept c s).key = s.key := rfl
@[simp] theorem accept_fn (c : Pending) (s : State) : (accept c s).fn = s.fn := rfl
@[simp] theorem accept_fbase (c : Pending) (s : State) : (accept c s).fbase = s.fbase := rfl
@[simp] theorem accept_fidx (c : Pending) (s : State) : (accept c s).fidx = s.fidx := rfl
@[simp] theorem accept_phase (c : Pending) (s : State) : (accept c s).phase = s.phase := rfl
@[simp] theorem accept_ks (c : Pending) (s : State) : (accept c s).ks = s.ks := rfl
@[simp] theorem accept_ksv (c : Pending) (s : State) : (accept c s).ksv = false := rfl
@[simp] theorem accept_data (c : Pending) (s : State) : (accept c s).data = s.data := rfl
@[simp] theorem accept_keyLo (c : Pending) (s : State) : (accept c s).keyLo = s.keyLo := rfl
@[simp] theorem accept_keyHi (c : Pending) (s : State) : (accept c s).keyHi = s.keyHi := rfl
@[simp] theorem accept_frameIn (c : Pending) (s : State) : (accept c s).frameIn = s.frameIn := rfl
@[simp] theorem accept_pending (c : Pending) (s : State) : (accept c s).pending = some c := rfl
@[simp] theorem accept_errSeed (c : Pending) (s : State) : (accept c s).errSeed = s.errSeed := rfl
@[simp] theorem accept_errState (c : Pending) (s : State) : (accept c s).errState = s.errState := rfl
@[simp] theorem accept_errCmd (c : Pending) (s : State) : (accept c s).errCmd = s.errCmd := rfl
@[simp] theorem accept_errBusy (c : Pending) (s : State) : (accept c s).errBusy = s.errBusy := rfl
@[simp] theorem accept_fnWrap (c : Pending) (s : State) : (accept c s).fnWrap = s.fnWrap := rfl
@[simp] theorem accept_inputs (c : Pending) (s : State) : (accept c s).inputs = s.inputs := rfl
@[simp] theorem accept_rdata (c : Pending) (s : State) : (accept c s).rdata = s.rdata := rfl
@[simp] theorem accept_draws (c : Pending) (s : State) : (accept c s).draws = s.draws := rfl

/-! ### clearStatus -/

@[simp] theorem clearStatus_build (v : Word) (s : State) : (clearStatus v s).build = s.build := rfl
@[simp] theorem clearStatus_bank (v : Word) (s : State) : (clearStatus v s).bank = s.bank := rfl
@[simp] theorem clearStatus_key (v : Word) (s : State) : (clearStatus v s).key = s.key := rfl
@[simp] theorem clearStatus_fn (v : Word) (s : State) : (clearStatus v s).fn = s.fn := rfl
@[simp] theorem clearStatus_fbase (v : Word) (s : State) : (clearStatus v s).fbase = s.fbase := rfl
@[simp] theorem clearStatus_fidx (v : Word) (s : State) : (clearStatus v s).fidx = s.fidx := rfl
@[simp] theorem clearStatus_phase (v : Word) (s : State) : (clearStatus v s).phase = s.phase := rfl
@[simp] theorem clearStatus_ks (v : Word) (s : State) : (clearStatus v s).ks = s.ks := rfl
@[simp] theorem clearStatus_ksv (v : Word) (s : State) : (clearStatus v s).ksv = s.ksv := rfl
@[simp] theorem clearStatus_data (v : Word) (s : State) : (clearStatus v s).data = s.data := rfl
@[simp] theorem clearStatus_keyLo (v : Word) (s : State) : (clearStatus v s).keyLo = s.keyLo := rfl
@[simp] theorem clearStatus_keyHi (v : Word) (s : State) : (clearStatus v s).keyHi = s.keyHi := rfl
@[simp] theorem clearStatus_frameIn (v : Word) (s : State) : (clearStatus v s).frameIn = s.frameIn := rfl
@[simp] theorem clearStatus_pending (v : Word) (s : State) : (clearStatus v s).pending = s.pending := rfl
@[simp] theorem clearStatus_errSeed (v : Word) (s : State) : (clearStatus v s).errSeed = (s.errSeed && !v.getLsbD 8) := rfl
@[simp] theorem clearStatus_errState (v : Word) (s : State) : (clearStatus v s).errState = (s.errState && !v.getLsbD 9) := rfl
@[simp] theorem clearStatus_errCmd (v : Word) (s : State) : (clearStatus v s).errCmd = (s.errCmd && !v.getLsbD 10) := rfl
@[simp] theorem clearStatus_errBusy (v : Word) (s : State) : (clearStatus v s).errBusy = (s.errBusy && !v.getLsbD 11) := rfl
@[simp] theorem clearStatus_fnWrap (v : Word) (s : State) : (clearStatus v s).fnWrap = (s.fnWrap && !v.getLsbD 12) := rfl
@[simp] theorem clearStatus_inputs (v : Word) (s : State) : (clearStatus v s).inputs = s.inputs := rfl
@[simp] theorem clearStatus_rdata (v : Word) (s : State) : (clearStatus v s).rdata = s.rdata := rfl
@[simp] theorem clearStatus_draws (v : Word) (s : State) : (clearStatus v s).draws = s.draws := rfl

/-! ### drawRead -/

@[simp] theorem drawRead_build (s : State) : (drawRead s).build = s.build := rfl
@[simp] theorem drawRead_bank (s : State) : (drawRead s).bank = s.bank := rfl
@[simp] theorem drawRead_key (s : State) : (drawRead s).key = s.key := rfl
@[simp] theorem drawRead_fn (s : State) : (drawRead s).fn = s.fn := rfl
@[simp] theorem drawRead_fbase (s : State) : (drawRead s).fbase = s.fbase := rfl
@[simp] theorem drawRead_fidx (s : State) : (drawRead s).fidx = s.fidx := rfl
@[simp] theorem drawRead_phase (s : State) : (drawRead s).phase = s.phase := rfl
@[simp] theorem drawRead_ks (s : State) : (drawRead s).ks = s.ks := rfl
@[simp] theorem drawRead_ksv (s : State) : (drawRead s).ksv = s.ksv := rfl
@[simp] theorem drawRead_data (s : State) : (drawRead s).data = s.data := rfl
@[simp] theorem drawRead_keyLo (s : State) : (drawRead s).keyLo = s.keyLo := rfl
@[simp] theorem drawRead_keyHi (s : State) : (drawRead s).keyHi = s.keyHi := rfl
@[simp] theorem drawRead_frameIn (s : State) : (drawRead s).frameIn = s.frameIn := rfl
@[simp] theorem drawRead_pending (s : State) : (drawRead s).pending = s.pending := rfl
@[simp] theorem drawRead_errSeed (s : State) : (drawRead s).errSeed = s.errSeed := rfl
@[simp] theorem drawRead_errState (s : State) : (drawRead s).errState = s.errState := rfl
@[simp] theorem drawRead_errCmd (s : State) : (drawRead s).errCmd = s.errCmd := rfl
@[simp] theorem drawRead_errBusy (s : State) : (drawRead s).errBusy = s.errBusy := rfl
@[simp] theorem drawRead_fnWrap (s : State) : (drawRead s).fnWrap = s.fnWrap := rfl
@[simp] theorem drawRead_inputs (s : State) : (drawRead s).inputs = s.inputs := rfl
@[simp] theorem drawRead_rdata (s : State) : (drawRead s).rdata = Config.freeValue s.draws := rfl
@[simp] theorem drawRead_draws (s : State) : (drawRead s).draws = s.draws + 1 := rfl

/-! ### incFrame -/

@[simp] theorem incFrame_build (s : State) : (incFrame s).build = s.build := rfl
@[simp] theorem incFrame_bank (s : State) : (incFrame s).bank = s.bank := rfl
@[simp] theorem incFrame_key (s : State) : (incFrame s).key = s.key := rfl
@[simp] theorem incFrame_fn (s : State) : (incFrame s).fn = s.fn + 1 := rfl
@[simp] theorem incFrame_fbase (s : State) : (incFrame s).fbase = s.fbase := rfl
@[simp] theorem incFrame_fidx (s : State) : (incFrame s).fidx = s.fidx := rfl
@[simp] theorem incFrame_phase (s : State) : (incFrame s).phase = s.phase := rfl
@[simp] theorem incFrame_ks (s : State) : (incFrame s).ks = s.ks := rfl
@[simp] theorem incFrame_ksv (s : State) : (incFrame s).ksv = s.ksv := rfl
@[simp] theorem incFrame_data (s : State) : (incFrame s).data = s.data := rfl
@[simp] theorem incFrame_keyLo (s : State) : (incFrame s).keyLo = s.keyLo := rfl
@[simp] theorem incFrame_keyHi (s : State) : (incFrame s).keyHi = s.keyHi := rfl
@[simp] theorem incFrame_frameIn (s : State) : (incFrame s).frameIn = s.frameIn := rfl
@[simp] theorem incFrame_pending (s : State) : (incFrame s).pending = s.pending := rfl
@[simp] theorem incFrame_errSeed (s : State) : (incFrame s).errSeed = s.errSeed := rfl
@[simp] theorem incFrame_errState (s : State) : (incFrame s).errState = s.errState := rfl
@[simp] theorem incFrame_errCmd (s : State) : (incFrame s).errCmd = s.errCmd := rfl
@[simp] theorem incFrame_errBusy (s : State) : (incFrame s).errBusy = s.errBusy := rfl
@[simp] theorem incFrame_fnWrap (s : State) : (incFrame s).fnWrap = (s.fnWrap || s.fn == 0x3FFFFF) := rfl
@[simp] theorem incFrame_inputs (s : State) : (incFrame s).inputs = s.inputs := rfl
@[simp] theorem incFrame_rdata (s : State) : (incFrame s).rdata = s.rdata := rfl
@[simp] theorem incFrame_draws (s : State) : (incFrame s).draws = s.draws := rfl

/-! ### completeInit -/

@[simp] theorem completeInit_build (s : State) : (completeInit s).build = s.build := by cases s; rfl
@[simp] theorem completeInit_bank (s : State) : (completeInit s).bank = seed s.build s.key s.fn s.bank := by cases s; rfl
@[simp] theorem completeInit_key (s : State) : (completeInit s).key = s.key := by cases s; rfl
@[simp] theorem completeInit_fn (s : State) : (completeInit s).fn = s.fn := by cases s; rfl
@[simp] theorem completeInit_fbase (s : State) : (completeInit s).fbase = s.fbase := by cases s; rfl
@[simp] theorem completeInit_fidx (s : State) : (completeInit s).fidx = s.fidx := by cases s; rfl
@[simp] theorem completeInit_phase (s : State) : (completeInit s).phase = .seeded := by cases s; rfl
@[simp] theorem completeInit_ks (s : State) : (completeInit s).ks = s.ks := by cases s; rfl
@[simp] theorem completeInit_ksv (s : State) : (completeInit s).ksv = s.ksv := by cases s; rfl
@[simp] theorem completeInit_data (s : State) : (completeInit s).data = s.data := by cases s; rfl
@[simp] theorem completeInit_keyLo (s : State) : (completeInit s).keyLo = s.keyLo := by cases s; rfl
@[simp] theorem completeInit_keyHi (s : State) : (completeInit s).keyHi = s.keyHi := by cases s; rfl
@[simp] theorem completeInit_frameIn (s : State) : (completeInit s).frameIn = s.frameIn := by cases s; rfl
@[simp] theorem completeInit_pending (s : State) : (completeInit s).pending = none := by cases s; rfl
@[simp] theorem completeInit_errSeed (s : State) : (completeInit s).errSeed = s.errSeed := by cases s; rfl
@[simp] theorem completeInit_errState (s : State) : (completeInit s).errState = s.errState := by cases s; rfl
@[simp] theorem completeInit_errCmd (s : State) : (completeInit s).errCmd = s.errCmd := by cases s; rfl
@[simp] theorem completeInit_errBusy (s : State) : (completeInit s).errBusy = s.errBusy := by cases s; rfl
@[simp] theorem completeInit_fnWrap (s : State) : (completeInit s).fnWrap = s.fnWrap := by cases s; rfl
@[simp] theorem completeInit_inputs (s : State) : (completeInit s).inputs = s.inputs := by cases s; rfl
@[simp] theorem completeInit_rdata (s : State) : (completeInit s).rdata = s.rdata := by cases s; rfl
@[simp] theorem completeInit_draws (s : State) : (completeInit s).draws = s.draws := by cases s; rfl

/-! ### completeGetFrame -/

@[simp] theorem completeGetFrame_build (s : State) : (completeGetFrame s).build = s.build := by cases s; rfl
@[simp] theorem completeGetFrame_bank (s : State) : (completeGetFrame s).bank = (keystreamFrame s.build.r3BugCompat s.bank).2 := by cases s; rfl
@[simp] theorem completeGetFrame_key (s : State) : (completeGetFrame s).key = s.key := by cases s; rfl
@[simp] theorem completeGetFrame_fn (s : State) : (completeGetFrame s).fn = s.fn := by cases s; rfl
@[simp] theorem completeGetFrame_fbase (s : State) : (completeGetFrame s).fbase = s.fbase := by cases s; rfl
@[simp] theorem completeGetFrame_fidx (s : State) : (completeGetFrame s).fidx = s.fidx := by cases s; rfl
@[simp] theorem completeGetFrame_phase (s : State) : (completeGetFrame s).phase = .extracting := by cases s; rfl
@[simp] theorem completeGetFrame_ks (s : State) : (completeGetFrame s).ks = (keystreamFrame s.build.r3BugCompat s.bank).1 := by cases s; rfl
@[simp] theorem completeGetFrame_ksv (s : State) : (completeGetFrame s).ksv = true := by cases s; rfl
@[simp] theorem completeGetFrame_data (s : State) : (completeGetFrame s).data = s.data := by cases s; rfl
@[simp] theorem completeGetFrame_keyLo (s : State) : (completeGetFrame s).keyLo = s.keyLo := by cases s; rfl
@[simp] theorem completeGetFrame_keyHi (s : State) : (completeGetFrame s).keyHi = s.keyHi := by cases s; rfl
@[simp] theorem completeGetFrame_frameIn (s : State) : (completeGetFrame s).frameIn = s.frameIn := by cases s; rfl
@[simp] theorem completeGetFrame_pending (s : State) : (completeGetFrame s).pending = none := by cases s; rfl
@[simp] theorem completeGetFrame_errSeed (s : State) : (completeGetFrame s).errSeed = s.errSeed := by cases s; rfl
@[simp] theorem completeGetFrame_errState (s : State) : (completeGetFrame s).errState = s.errState := by cases s; rfl
@[simp] theorem completeGetFrame_errCmd (s : State) : (completeGetFrame s).errCmd = s.errCmd := by cases s; rfl
@[simp] theorem completeGetFrame_errBusy (s : State) : (completeGetFrame s).errBusy = s.errBusy := by cases s; rfl
@[simp] theorem completeGetFrame_fnWrap (s : State) : (completeGetFrame s).fnWrap = s.fnWrap := by cases s; rfl
@[simp] theorem completeGetFrame_inputs (s : State) : (completeGetFrame s).inputs = s.inputs := by cases s; rfl
@[simp] theorem completeGetFrame_rdata (s : State) : (completeGetFrame s).rdata = s.rdata := by cases s; rfl
@[simp] theorem completeGetFrame_draws (s : State) : (completeGetFrame s).draws = s.draws := by cases s; rfl

/-! ### completeCipherFrame -/

@[simp] theorem completeCipherFrame_build (len : BitVec 6) (s : State) : (completeCipherFrame len s).build = s.build := by cases s; rfl
@[simp] theorem completeCipherFrame_bank (len : BitVec 6) (s : State) : (completeCipherFrame len s).bank = (keystreamFrame s.build.r3BugCompat (seed s.build s.key (BitVec.ofNat 22 s.frameSum) s.bank)).2 := by cases s; rfl
@[simp] theorem completeCipherFrame_key (len : BitVec 6) (s : State) : (completeCipherFrame len s).key = s.key := by cases s; rfl
@[simp] theorem completeCipherFrame_fn (len : BitVec 6) (s : State) : (completeCipherFrame len s).fn = BitVec.ofNat 22 s.frameSum := by cases s; rfl
@[simp] theorem completeCipherFrame_fbase (len : BitVec 6) (s : State) : (completeCipherFrame len s).fbase = s.fbase := by cases s; rfl
@[simp] theorem completeCipherFrame_fidx (len : BitVec 6) (s : State) : (completeCipherFrame len s).fidx = s.fidx + 1 := by cases s; rfl
@[simp] theorem completeCipherFrame_phase (len : BitVec 6) (s : State) : (completeCipherFrame len s).phase = .extracting := by cases s; rfl
@[simp] theorem completeCipherFrame_ks (len : BitVec 6) (s : State) : (completeCipherFrame len s).ks = (keystreamFrame s.build.r3BugCompat (seed s.build s.key (BitVec.ofNat 22 s.frameSum) s.bank)).1 := by cases s; rfl
@[simp] theorem completeCipherFrame_ksv (len : BitVec 6) (s : State) : (completeCipherFrame len s).ksv = true := by cases s; rfl
@[simp] theorem completeCipherFrame_data (len : BitVec 6) (s : State) : (completeCipherFrame len s).data = xorBelow len.toNat (keystreamFrame s.build.r3BugCompat (seed s.build s.key (BitVec.ofNat 22 s.frameSum) s.bank)).1 s.data := by cases s; rfl
@[simp] theorem completeCipherFrame_keyLo (len : BitVec 6) (s : State) : (completeCipherFrame len s).keyLo = s.keyLo := by cases s; rfl
@[simp] theorem completeCipherFrame_keyHi (len : BitVec 6) (s : State) : (completeCipherFrame len s).keyHi = s.keyHi := by cases s; rfl
@[simp] theorem completeCipherFrame_frameIn (len : BitVec 6) (s : State) : (completeCipherFrame len s).frameIn = s.frameIn := by cases s; rfl
@[simp] theorem completeCipherFrame_pending (len : BitVec 6) (s : State) : (completeCipherFrame len s).pending = none := by cases s; rfl
@[simp] theorem completeCipherFrame_errSeed (len : BitVec 6) (s : State) : (completeCipherFrame len s).errSeed = s.errSeed := by cases s; rfl
@[simp] theorem completeCipherFrame_errState (len : BitVec 6) (s : State) : (completeCipherFrame len s).errState = s.errState := by cases s; rfl
@[simp] theorem completeCipherFrame_errCmd (len : BitVec 6) (s : State) : (completeCipherFrame len s).errCmd = s.errCmd := by cases s; rfl
@[simp] theorem completeCipherFrame_errBusy (len : BitVec 6) (s : State) : (completeCipherFrame len s).errBusy = s.errBusy := by cases s; rfl
@[simp] theorem completeCipherFrame_fnWrap (len : BitVec 6) (s : State) : (completeCipherFrame len s).fnWrap = (s.fnWrap || Nat.ble 0x400000 s.frameSum) := by cases s; rfl
@[simp] theorem completeCipherFrame_inputs (len : BitVec 6) (s : State) : (completeCipherFrame len s).inputs = s.inputs := by cases s; rfl
@[simp] theorem completeCipherFrame_rdata (len : BitVec 6) (s : State) : (completeCipherFrame len s).rdata = s.rdata := by cases s; rfl
@[simp] theorem completeCipherFrame_draws (len : BitVec 6) (s : State) : (completeCipherFrame len s).draws = s.draws := by cases s; rfl

/-! ### resetBlock -/

@[simp] theorem resetBlock_build (s : State) : (resetBlock s).build = s.build := rfl
@[simp] theorem resetBlock_bank (s : State) : (resetBlock s).bank = ⟨0, 0, 0⟩ := rfl
@[simp] theorem resetBlock_key (s : State) : (resetBlock s).key = 0 := rfl
@[simp] theorem resetBlock_fn (s : State) : (resetBlock s).fn = 0 := rfl
@[simp] theorem resetBlock_fbase (s : State) : (resetBlock s).fbase = 0 := rfl
@[simp] theorem resetBlock_fidx (s : State) : (resetBlock s).fidx = 0 := rfl
@[simp] theorem resetBlock_phase (s : State) : (resetBlock s).phase = .none := rfl
@[simp] theorem resetBlock_ks (s : State) : (resetBlock s).ks = Vector.replicate 57 0 := rfl
@[simp] theorem resetBlock_ksv (s : State) : (resetBlock s).ksv = false := rfl
@[simp] theorem resetBlock_data (s : State) : (resetBlock s).data = Vector.replicate 57 0 := rfl
@[simp] theorem resetBlock_keyLo (s : State) : (resetBlock s).keyLo = 0 := rfl
@[simp] theorem resetBlock_keyHi (s : State) : (resetBlock s).keyHi = 0 := rfl
@[simp] theorem resetBlock_frameIn (s : State) : (resetBlock s).frameIn = 0 := rfl
@[simp] theorem resetBlock_pending (s : State) : (resetBlock s).pending = none := rfl
@[simp] theorem resetBlock_errSeed (s : State) : (resetBlock s).errSeed = false := rfl
@[simp] theorem resetBlock_errState (s : State) : (resetBlock s).errState = false := rfl
@[simp] theorem resetBlock_errCmd (s : State) : (resetBlock s).errCmd = false := rfl
@[simp] theorem resetBlock_errBusy (s : State) : (resetBlock s).errBusy = false := rfl
@[simp] theorem resetBlock_fnWrap (s : State) : (resetBlock s).fnWrap = false := rfl
@[simp] theorem resetBlock_inputs (s : State) : (resetBlock s).inputs = s.inputs := rfl
@[simp] theorem resetBlock_rdata (s : State) : (resetBlock s).rdata = s.rdata := rfl
@[simp] theorem resetBlock_draws (s : State) : (resetBlock s).draws = s.draws := rfl

/-! ### BUSY after each update (10_state.md R27) -/

@[simp] theorem raise_busy (e : ErrorKind) (s : State) : (raise e s).busy = s.busy := rfl
@[simp] theorem accept_busy (c : Pending) (s : State) : (accept c s).busy = true := rfl
@[simp] theorem clearStatus_busy (v : Word) (s : State) : (clearStatus v s).busy = s.busy := rfl
@[simp] theorem drawRead_busy (s : State) : (drawRead s).busy = s.busy := rfl
@[simp] theorem incFrame_busy (s : State) : (incFrame s).busy = s.busy := rfl
@[simp] theorem resetBlock_busy (s : State) : (resetBlock s).busy = false := rfl

theorem busy_eq_false_iff (s : State) : s.busy = false ↔ s.pending = none := by
  simp [State.busy]

theorem busy_eq_true_iff (s : State) : s.busy = true ↔ ∃ c, s.pending = some c := by
  simp [State.busy, Option.isSome_iff_exists]

/-! ### The errors `raise` sets, in record form -/

theorem raise_seed (s : State) : raise .seed s = { s with errSeed := true } := by simp [raise]
theorem raise_state (s : State) : raise .state s = { s with errState := true } := by simp [raise]
theorem raise_command (s : State) : raise .command s = { s with errCmd := true } := by simp [raise]
theorem raise_busyError (s : State) : raise .busy s = { s with errBusy := true } := by simp [raise]

end Sys2Proof.Machine
end

