-- ==== Sys2Proof/Laws/Ops.lean ====
section
/-! SUPPORT. One lemma for each shared operation that says everything it can do, and the inversion of a step. -/

namespace Sys2Proof.Machine

/-! ### Dispatch -/

/-- All four ways a CMD write other than a legal SRESET can end (41_generator_commands.md R65). -/
theorem dispatch_cases (legal admitted : Bool) (f : State → State) (s : State) :
    (s.busy = true ∧ dispatch legal admitted f s = .next (raise .busy s)) ∨
    (s.busy = false ∧ legal = false ∧ dispatch legal admitted f s = .next (raise .command s)) ∨
    (s.busy = false ∧ legal = true ∧ admitted = false ∧ dispatch legal admitted f s = .next (raise .state s)) ∨
    (s.busy = false ∧ legal = true ∧ admitted = true ∧ dispatch legal admitted f s = .next (f s)) := by
  cases hb : s.busy <;> cases legal <;> cases admitted <;> simp [dispatch, hb]

theorem dispatch_busy {legal admitted : Bool} {f : State → State} {s : State} (h : s.busy = true) :
    dispatch legal admitted f s = .next (raise .busy s) := by simp [dispatch, h]

theorem dispatch_illegal {admitted : Bool} {f : State → State} {s : State} (h : s.busy = false) :
    dispatch false admitted f s = .next (raise .command s) := by simp [dispatch, h]

theorem dispatch_notAdmitted {f : State → State} {s : State} (h : s.busy = false) :
    dispatch true false f s = .next (raise .state s) := by simp [dispatch, h]

theorem dispatch_runs {f : State → State} {s : State} (h : s.busy = false) :
    dispatch true true f s = .next (f s) := by simp [dispatch, h]

/-! ### Admission -/

theorem hasContext_eq_true_iff (s : State) : s.hasContext = true ↔ s.phase ≠ .none := by
  simp [State.hasContext]

theorem isSeeded_eq_true_iff (s : State) :
    s.isSeeded = true ↔ s.phase = .seeded ∨ s.phase = .extracting := by
  simp [State.isSeeded]

/-- The decoder's test of LEN says what well-formedness says (30_encoding.md R49). -/
theorem lenLegal_eq_true_iff (len : BitVec 6) : lenLegal len = true ↔ 1 ≤ len.toNat ∧ len.toNat ≤ 57 := by
  simp [lenLegal]

theorem lenLegal_eq_false_iff (len : BitVec 6) : lenLegal len = false ↔ len.toNat = 0 ∨ 57 < len.toNat := by
  rw [← Bool.not_eq_true, lenLegal_eq_true_iff]
  omega

theorem wf_cipherFrame (len : BitVec 6) : (Instr.cipherFrame len).wf = lenLegal len := by
  rw [Bool.eq_iff_iff, lenLegal_eq_true_iff]
  simp [Instr.wf]

/-- FRAME_IN is within the 22-bit bound of CONSTRUCT (41_generator_commands.md R67). -/
theorem frameInRange_eq_true_iff (s : State) : s.frameInRange = true ↔ s.frameIn.toNat < 0x400000 := by
  simp [State.frameInRange]

theorem frameInRange_eq_false_iff (s : State) : s.frameInRange = false ↔ 0x400000 ≤ s.frameIn.toNat := by
  rw [← Bool.not_eq_true, frameInRange_eq_true_iff, Nat.not_lt]

/-- FN_WRAP's bound in CIPHER_FRAME, as a test on the sum (42_frame_cipher.md R75). -/
theorem ble_frameSum (s : State) :
    Nat.ble 0x400000 s.frameSum = decide (0x400000 ≤ s.fbase.toNat + s.fidx.toNat) := by
  rw [Bool.eq_iff_iff]
  simp [State.frameSum]

/-! ### Window addresses and buffers -/

/-- An offset of the window is found at its platform address (20_memory.md R31). -/
theorem windowOffset_pBase (b : Build) {off : Nat} (h : off < 4096) :
    windowOffset b (pBase b + off) = some off := by
  simp [windowOffset, h]

theorem windowOffset_outside (b : Build) {addr : Nat} (h : addr < pBase b ∨ pBase b + 4096 ≤ addr) :
    windowOffset b addr = none := by
  unfold windowOffset
  split
  · omega
  · rfl

/-- Every address is outside the window or the address of one offset. -/
theorem windowOffset_cases (b : Build) (addr : Nat) :
    windowOffset b addr = none ∨ ∃ off, off < 4096 ∧ addr = pBase b + off ∧ windowOffset b addr = some off := by
  by_cases h : pBase b ≤ addr ∧ addr < pBase b + 4096
  · exact .inr ⟨addr - pBase b, by omega, by omega, by simp [windowOffset, h]⟩
  · exact .inl (by simp [windowOffset, h])

/-- `off & 0xFFC` of 20_memory.md R32, for the offsets of the window. -/
theorem wordOffset_eq_land {off : Nat} (h : off < 4096) : wordOffset off = off &&& 0xFFC := by
  have key : ∀ a b : Fin 64, wordOffset (64 * a.val + b.val) = (64 * a.val + b.val) &&& 0xFFC := by
    decide +kernel
  have e := key ⟨off / 64, by omega⟩ ⟨off % 64, by omega⟩
  rwa [Nat.div_add_mod] at e

theorem wordOffset_idem (off : Nat) : wordOffset (wordOffset off) = wordOffset off := by
  unfold wordOffset
  omega

theorem windowWord_ks {j : Nat} (h : j < 15) : windowWord (0x100 + 4 * j) = .ks j := by
  have key : ∀ m : Fin 15, windowWord (0x100 + 4 * m.val) = .ks m.val := by decide
  exact key ⟨j, h⟩

theorem windowWord_data {j : Nat} (h : j < 15) : windowWord (0x200 + 4 * j) = .data j := by
  have key : ∀ m : Fin 15, windowWord (0x200 + 4 * m.val) = .data m.val := by decide
  exact key ⟨j, h⟩

/-- A word offset of CMD alone is decoded as CMD. -/
theorem windowWord_eq_cmd_iff (a : Nat) : windowWord a = .cmd ↔ a = 0 := by
  unfold windowWord
  repeat' split
  all_goals simp_all

theorem byteOf_lt (b : Buffer) {k : Nat} (h : k < 57) : byteOf b k = b[k] := by simp [byteOf, h]

theorem byteOf_ge (b : Buffer) {k : Nat} (h : 57 ≤ k) : byteOf b k = 0 := by
  simp [byteOf, Nat.not_lt.mpr h]

theorem storeWord_get (b : Buffer) (j : Nat) (v : Word) {k : Nat} (h : k < 57) :
    (storeWord b j v)[k] = if k / 4 = j then byteLane v (k % 4) else b[k] := by simp [storeWord]

theorem xorBelow_get (len : Nat) (ks data : Buffer) {k : Nat} (h : k < 57) :
    (xorBelow len ks data)[k] = if k < len then data[k] ^^^ ks[k] else data[k] := by simp [xorBelow]

/-! ### Reads and writes -/

theorem perform_readInput (s : State) {off : Nat} (h : off < 4096) :
    perform (s.readInput off) s = .next (readOffset off s) := by
  simp [perform, State.readInput, hostRead, windowOffset_pBase _ h]

theorem perform_writeInput (s : State) {off : Nat} (v : Word) (h : off < 4096) :
    perform (s.writeInput off v) s = writeWord v s (windowWord (wordOffset off)) := by
  simp [perform, State.writeInput, hostWrite, windowOffset_pBase _ h]

/-- A read leaves everything but the value read and the count of free values (20_memory.md R40). -/
theorem readOffset_eq (off : Nat) (s : State) :
    readOffset off s = drawRead s ∨ readOffset off s =
      { s with rdata := readWord s (windowWord (wordOffset off)) } := by
  unfold readOffset
  split
  · exact .inl rfl
  · exact .inr rfl

/-- Every way a CMD write can end: a command, or the refusal of an illegal word (R65). -/
theorem writeCommand_cases (v : Word) (s : State) :
    (∃ i, decode v = .ok i ∧ writeCommand v s = exec i s) ∨
    ((∀ i, decode v ≠ .ok i) ∧ s.busy = true ∧ writeCommand v s = .next (raise .busy s)) ∨
    ((∀ i, decode v ≠ .ok i) ∧ s.busy = false ∧ writeCommand v s = .next (raise .command s)) := by
  unfold writeCommand
  cases hd : decode v with
  | ok i => exact .inl ⟨i, rfl, rfl⟩
  | error e =>
    cases hb : s.busy with
    | true => exact .inr (.inl ⟨by simp, rfl, dispatch_busy hb⟩)
    | false => exact .inr (.inr ⟨by simp, rfl, dispatch_illegal hb⟩)

/-- Every way a command can end at its CMD write: SRESET, an error, or the command's own effect (R65). -/
theorem exec_cases (i : Instr) (s : State) :
    (i = .sreset ∧ exec i s = .next (resetBlock s)) ∨
    (s.busy = true ∧ exec i s = .next (raise .busy s)) ∨
    (s.busy = false ∧ i.wf = false ∧ exec i s = .next (raise .command s)) ∨
    (s.busy = false ∧ exec i s = .next (raise .state s)) ∨
    (s.busy = false ∧ i = .nop ∧ exec i s = .next s) ∨
    (s.busy = false ∧ i = .construct ∧ exec i s = .next (construct s)) ∨
    (s.busy = false ∧ i = .incFrame ∧ s.phase ≠ .none ∧ exec i s = .next (incFrame s)) ∨
    (s.busy = false ∧ i = .init ∧ s.phase ≠ .none ∧ exec i s = .next (accept .init s)) ∨
    (s.busy = false ∧ i = .getFrame ∧ (s.phase = .seeded ∨ s.phase = .extracting) ∧
      exec i s = .next (accept .getFrame s)) ∨
    (s.busy = false ∧ i.wf = true ∧ s.phase ≠ .none ∧ ∃ len, i = .cipherFrame len ∧
      exec i s = .next (accept (.cipherFrame len) s)) := by
  cases i with
  | sreset => exact .inl ⟨rfl, rfl⟩
  | nop =>
    obtain ⟨h, e⟩ | ⟨-, h, -⟩ | ⟨-, -, h, -⟩ | ⟨h, -, -, e⟩ := dispatch_cases true true (fun t => t) s <;>
      simp_all [exec, execNop]
  | construct =>
    obtain ⟨h, e⟩ | ⟨-, h, -⟩ | ⟨-, -, h, -⟩ | ⟨h, -, -, e⟩ := dispatch_cases true true construct s <;>
      simp_all [exec, execConstruct]
  | incFrame =>
    obtain ⟨h, e⟩ | ⟨-, h, -⟩ | ⟨h, -, a, e⟩ | ⟨h, -, a, e⟩ := dispatch_cases true s.hasContext incFrame s <;>
      simp_all [exec, execIncFrame, hasContext_eq_true_iff]
  | init =>
    obtain ⟨h, e⟩ | ⟨-, h, -⟩ | ⟨h, -, a, e⟩ | ⟨h, -, a, e⟩ :=
      dispatch_cases true s.hasContext (accept .init) s <;>
      simp_all [exec, execInit, hasContext_eq_true_iff]
  | getFrame =>
    obtain ⟨h, e⟩ | ⟨-, h, -⟩ | ⟨h, -, a, e⟩ | ⟨h, -, a, e⟩ :=
      dispatch_cases true s.isSeeded (accept .getFrame) s <;>
      simp_all [exec, execGetFrame, isSeeded_eq_true_iff]
  | cipherFrame len =>
    obtain ⟨h, e⟩ | ⟨h, l, e⟩ | ⟨h, l, a, e⟩ | ⟨h, l, a, e⟩ :=
      dispatch_cases (lenLegal len) s.hasContext (accept (.cipherFrame len)) s <;>
      simp_all [exec, execCipherFrame, wf_cipherFrame, hasContext_eq_true_iff]

/-- Every way a write to a word of the window can end (20_memory.md R38, R39). -/
theorem writeWord_cases (v : Word) (s : State) (r : WindowWord) :
    (r = .cmd ∧ writeWord v s r = writeCommand v s) ∨
    (r = .status ∧ writeWord v s r = .next (clearStatus v s)) ∨
    (r = .keyLo ∧ writeWord v s r = .next { s with keyLo := v }) ∨
    (r = .keyHi ∧ writeWord v s r = .next { s with keyHi := v }) ∨
    (r = .frameIn ∧ writeWord v s r = .next { s with frameIn := v }) ∨
    (∃ j, r = .data j ∧ s.busy = true ∧ writeWord v s r = .next (raise .busy s)) ∨
    (∃ j, r = .data j ∧ s.busy = false ∧ writeWord v s r = .next { s with data := storeWord s.data j v }) ∨
    writeWord v s r = .next s := by
  cases r <;> simp [writeWord, writeData]
  cases s.busy <;> simp

/-! ### The step -/

@[simp] theorem step_withNext (s : State) (e : Input) : step (s.withNext e) = perform e s := rfl

theorem step_sequencer (s : State) : step (s.withNext .sequencer) = .next (sequencerStep s) := rfl

theorem step_of_inputs_nil {s : State} (h : s.inputs = []) : step s = .next (sequencerStep s) := by
  simp [step, advance, h]

/-- The step of a silent host is the sequencer's (log 3). -/
theorem step_silent {s : State} (h : s.inputs = []) : step s = step (s.withNext .sequencer) :=
  (step_of_inputs_nil h).trans (step_sequencer s).symm

theorem step_of_inputs_cons {s : State} {e : Input} {rest : List Input} (h : s.inputs = e :: rest) :
    step s = perform e { s with inputs := rest } := by
  simp [step, advance, h]

/-- A run whose first step answers a next state goes on from it. -/
theorem core_run_next (M : Host.Core) (k : Nat) (s t : M.State) (h : M.step s = .next t) :
    M.run (k + 1) s = M.run k t := by
  simp [Host.Core.run, h]

/-- Every state is the idle one of a silent host or has a next input. -/
theorem inputs_cases (s : State) : s.inputs = [] ∨ ∃ (r : State) (e : Input), s = r.withNext e := by
  cases h : s.inputs with
  | nil => exact .inl rfl
  | cons e rest => exact .inr ⟨{ s with inputs := rest }, e, by simp [State.withNext, ← h]⟩

/-- What a sequencer step does, by what is pending (41_generator_commands.md R73). -/
theorem sequencerStep_none {s : State} (h : s.pending = none) : sequencerStep s = s := by
  simp [sequencerStep, h]

theorem sequencerStep_init {s : State} (h : s.pending = some .init) : sequencerStep s = completeInit s := by
  simp [sequencerStep, h]

theorem sequencerStep_getFrame {s : State} (h : s.pending = some .getFrame) :
    sequencerStep s = completeGetFrame s := by
  simp [sequencerStep, h]

theorem sequencerStep_cipherFrame {s : State} {len : BitVec 6} (h : s.pending = some (.cipherFrame len)) :
    sequencerStep s = completeCipherFrame len s := by
  simp [sequencerStep, h]

theorem sequencerStep_pending (s : State) : (sequencerStep s).pending = none := by
  unfold sequencerStep
  split <;> simp_all

theorem sequencerStep_inputs (s : State) : (sequencerStep s).inputs = s.inputs := by
  unfold sequencerStep
  split <;> simp

end Sys2Proof.Machine
end

