-- ==== Sys2Proof/Laws/PerInstr.lean ====
section
/-! SUPPORT. The per-command law EncodedFields: the fields of each command's word (spec 30_encoding.md R47). -/

namespace Sys2Proof.Laws.EncodedFields

/-- The word of a command has its OP in bits 3:0, its LEN in bits 13:8 and zero in its reserved bits. -/
def Statement (i : Instr) : Prop :=
  opField (encode i) = opcode i ∧ lenField (encode i) = encodedLen i ∧ reservedZero (encode i) = true

theorem nop : Statement .nop := by unfold Statement; decide
theorem construct : Statement .construct := by unfold Statement; decide
theorem init : Statement .init := by unfold Statement; decide
theorem getFrame : Statement .getFrame := by unfold Statement; decide
theorem incFrame : Statement .incFrame := by unfold Statement; decide

theorem cipherFrame (len : BitVec 6) : Statement (.cipherFrame len) := by
  have key : ∀ l : BitVec 6, opField (encode (.cipherFrame l)) = opcode (.cipherFrame l) ∧
      lenField (encode (.cipherFrame l)) = encodedLen (.cipherFrame l) ∧
      reservedZero (encode (.cipherFrame l)) = true := by decide +kernel
  exact key len

theorem sreset : Statement .sreset := by unfold Statement; decide

end Sys2Proof.Laws.EncodedFields
end

