-- ==== Sys2Proof/Tests/Slice0.lean ====
section
/-! SUPPORT. The model's own tests. Expected values come from the spec: 30_encoding.md R47 to R50,
95_test_vectors.md sections 3 and 4, and the examples of the rules named at each test. -/

namespace Sys2Proof.Tests

open Sys2Proof.Machine

/-! ### Well-formedness (R49) -/

theorem test_wf_refuses_len_zero : (Instr.cipherFrame 0).wf = false := by decide
theorem test_wf_refuses_len_58 : (Instr.cipherFrame 58).wf = false := by decide
theorem test_wf_accepts_len_1_and_57 :
    (Instr.cipherFrame 1).wf = true ∧ (Instr.cipherFrame 57).wf = true := by decide

/-! ### Decoding: words written out from R47, R48 and R50 -/

theorem test_decode_nop : decode 0b00000000000000000000000000000000#32 = .ok .nop := by decide
theorem test_decode_construct : decode 0b00000000000000000000000000000001#32 = .ok .construct := by decide
theorem test_decode_init : decode 0b00000000000000000000000000000010#32 = .ok .init := by decide
theorem test_decode_getFrame : decode 0b00000000000000000000000000000011#32 = .ok .getFrame := by decide
theorem test_decode_incFrame : decode 0b00000000000000000000000000000100#32 = .ok .incFrame := by decide
theorem test_decode_cipherFrame_57 : decode 0x00003905#32 = .ok (.cipherFrame 57) := by decide
theorem test_decode_cipherFrame_1 : decode 0x00000105#32 = .ok (.cipherFrame 1) := by decide
theorem test_decode_sreset : decode 0b00000000000000000000000000000110#32 = .ok .sreset := by decide
theorem test_decode_reserved_op : decode 0x00000007#32 = .error (.reservedOp 7) := by decide
theorem test_decode_len_58 : decode 0x00003A05#32 = .error .lenOutOfRange := by decide
theorem test_decode_len_0 : decode 0x00000005#32 = .error .lenOutOfRange := by decide
theorem test_decode_init_len_1 : decode 0x00000102#32 = .error .lenNotZero := by decide
theorem test_decode_reserved_bits :
    decode 0x00000010#32 = .error .reservedBits ∧ decode 0x00004000#32 = .error .reservedBits := by decide
theorem test_table_words :
    decodeTableWord 32 0x00003905 = some (.cipherFrame 57) ∧ decodeTableWord 32 0x00000005 = none := by decide

/-! ### The core operations (95_test_vectors.md 3.1 to 3.3) -/

/-- The all-zero register bank. -/
def zeroBank : Bank := ⟨0, 0, 0⟩

/-- The bank of 95_test_vectors.md 3.2: only the clocking bits set. -/
def clockBank (c1 c2 c3 : Bool) : Bank :=
  ⟨(BitVec.ofBool c1).setWidth 19 <<< 8, (BitVec.ofBool c2).setWidth 22 <<< 10, (BitVec.ofBool c3).setWidth 23 <<< 10⟩

theorem test_feedback_r1 :
    Bank.feedback .r1 ⟨0x72000, 0, 0⟩ = false ∧ Bank.feedback .r1 ⟨0x02000, 0, 0⟩ = true := by decide
theorem test_feedback_r2 :
    Bank.feedback .r2 ⟨0, 0x300000, 0⟩ = false ∧ Bank.feedback .r2 ⟨0, 0x100000, 0⟩ = true := by decide
theorem test_feedback_r3 :
    Bank.feedback .r3 ⟨0, 0, 0x700080⟩ = false ∧ Bank.feedback .r3 ⟨0, 0, 0x000080⟩ = true := by decide
theorem test_shift_loses_the_top_bit :
    shiftIn 0x40000#19 true = 0x00001 ∧ shiftIn 0x200001#22 false = 0x000002 := by decide
theorem test_clockingBit :
    Bank.clockingBit .r1 ⟨0x100, 0, 0⟩ = true ∧ Bank.clockingBit .r2 ⟨0, 0x400, 0⟩ = true
      ∧ Bank.clockingBit .r3 ⟨0, 0, 0x200⟩ = false := by decide
theorem test_majorityCycle_011 :
    majorityCycle false (clockBank false true true) = ⟨0, 0x800, 0x800⟩
      ∧ majorityCycle true (clockBank false true true) = ⟨0, 0x800, 0x400⟩ := by decide +kernel
theorem test_majorityCycle_101 :
    majorityCycle false (clockBank true false true) = ⟨0x200, 0, 0x800⟩
      ∧ majorityCycle true (clockBank true false true) = ⟨0x400, 0, 0x400⟩ := by decide +kernel
theorem test_majorityCycle_bug_shifts_r1_for_r3 :
    majorityCycle true ⟨0x40000, 0x400, 0x400⟩ = ⟨0x00001, 0x800, 0x400⟩ := by decide +kernel
theorem test_mixKey_one : mixKey 1 zeroBank = ⟨0x7B240, 0x280001, 0x2AAD81⟩ := by decide +kernel
theorem test_mixFrameNumber_X3 :
    mixFrameNumber 0x134 ⟨0x4030D, 0x1FA05C, 0x3668E1⟩ = ⟨0x064A2, 0x2BC0E5, 0x72DF8D⟩ := by decide +kernel
theorem test_warm_up_first_three_cycles :
    majorityCycles false 3 ⟨0x064A2, 0x2BC0E5, 0x72DF8D⟩ = ⟨0x32515, 0x2F0397, 0x65BF1A⟩ := by decide +kernel

/-! ### States for the command tests -/

/-- A constructed context with the key and frame number of vector X3. -/
def x3Constructed : State :=
  { State.reset with
    key := 0xEFCDAB8967452312
    fn := 0x134
    fbase := 0x134
    phase := .constructed }

/-- Vector X3 after seeding. -/
def x3Seeded : State :=
  { x3Constructed with bank := ⟨0x1DA4B, 0x2CB2F9, 0x08BE5F⟩, phase := .seeded }

/-- The next state of an outcome, `d` when it stopped. -/
def nextOr (d : State) : Host.Outcome State Fault Refusal → State
  | .next t => t
  | .fault _ => d
  | .refused _ => d

/-- The state after one step whose input is a command word. -/
def afterCommand (s : State) (w : Nat) : State := nextOr s (step (s.withFetchWord 32 w))

/-- The state after one step with this input. -/
def afterInput (s : State) (e : Input) : State := nextOr s (step { s with inputs := [e] })

/-- What a host read at this offset returns. -/
def readAt (s : State) (off : Nat) : Word := (afterInput s (.read (pBase s.build + off))).rdata

/-- The state after a host write at this offset. -/
def writeAt (s : State) (off : Nat) (v : Word) : State := afterInput s (.write (pBase s.build + off) v)

/-- The bytes of a buffer as one number, byte 0 most significant. -/
def bytesNumber (b : Buffer) : Nat := b.toList.foldl (fun a x => 256 * a + x.toNat) 0

/-! ### Commands (95_test_vectors.md 3.5, program P3, vector X3; R67 to R75 examples) -/

theorem test_nop_after_reset : (afterCommand .reset 0).statusWord = 0 := by decide +kernel
theorem test_construct_frame_too_large :
    (afterCommand { State.reset with frameIn := 0x00400000 } 1).statusWord = 0x00000100 := by decide +kernel
theorem test_construct_takes_the_key_high_word_first :
    (afterCommand { State.reset with keyLo := 0x67452312, keyHi := 0xEFCDAB89, frameIn := 0x134 } 1).key
      = 0xEFCDAB8967452312 := by decide +kernel
theorem test_init_goes_pending_or_is_a_state_error :
    (afterCommand x3Constructed 2).statusWord = 0x00000003
      ∧ (afterCommand .reset 2).statusWord = 0x00000200 := by decide +kernel
theorem test_get_frame_goes_pending_or_is_a_state_error :
    (afterCommand x3Seeded 3).pending = some .getFrame
      ∧ (afterCommand x3Constructed 3).statusWord = 0x00000202 := by decide +kernel
theorem test_inc_frame_wraps :
    (afterCommand { x3Constructed with fn := 0x3FFFFF } 4).fn = 0
      ∧ (afterCommand { x3Constructed with fn := 0x3FFFFF } 4).statusWord = 0x00001002 := by decide +kernel
theorem test_inc_frame_while_busy :
    (afterCommand { x3Constructed with pending := some .init } 4).statusWord = 0x00000803
      ∧ (afterCommand { x3Constructed with pending := some .init } 4).fn = 0x134 := by decide +kernel
theorem test_cipher_frame_goes_pending_or_is_a_command_error :
    (afterCommand x3Constructed 0x3905).pending = some (.cipherFrame 57)
      ∧ (afterCommand .reset 0x3A05).statusWord = 0x00000400 := by decide +kernel
theorem test_sreset_abandons_the_pending_command :
    afterCommand { x3Seeded with pending := some .getFrame, errBusy := true } 6 = State.reset := by decide +kernel
theorem test_reserved_op_is_a_command_error : (afterCommand .reset 7).statusWord = 0x00000400 := by decide +kernel

set_option maxRecDepth 100000 in
theorem test_init_completion_X3 :
    (sequencerStep { x3Constructed with pending := some .init }).bank = ⟨0x1DA4B, 0x2CB2F9, 0x08BE5F⟩ := by
  decide +kernel

set_option maxRecDepth 100000 in
theorem test_get_frame_completion_X3 :
    bytesNumber (sequencerStep { x3Seeded with pending := some .getFrame }).ks
      = 0x534EAA582FE8151AB6E1855A728C093F4D68D757ED949B4CBE41B7C6BF27ABFCA54AA6C0C097EF9605CDF5D024344AE99CD9784474D69A64C7 := by
  decide +kernel

set_option maxRecDepth 100000 in
theorem test_cipher_frame_completion_R75 :
    bytesNumber (sequencerStep { x3Constructed with
        data := Vector.ofFn fun k => BitVec.ofNat 8 k.val, pending := some (.cipherFrame 57) }).data
      = 0x534FA85B2BED131DBEE88F517E8107305D79C544F9818D5BA658ADDDA33AB5E3856B84E3E4B2C9B12DE4DFFB081964C6ACE84A7740E3AC53FF := by
  decide +kernel

set_option maxRecDepth 100000 in
theorem test_bug_compatible_seed_X10 :
    seed ⟨0, true, false⟩ 0xEFCDAB8967452312 0x134 zeroBank = ⟨0x41505, 0x372351, 0x72DF8D⟩ := by decide +kernel

/-! ### The register window (95_test_vectors.md 3.5) -/

theorem test_read_status_after_reset : readAt .reset 4 = 0 := by decide +kernel
theorem test_read_ks_is_little_endian :
    readAt { x3Seeded with ks := Vector.ofFn fun k => BitVec.ofNat 8 (k.val + 1) } 0x104 = 0x08070605
      ∧ readAt { x3Seeded with ks := Vector.replicate 57 0xC7 } 0x138 = 0x000000C7 := by decide +kernel
theorem test_write_last_data_word_backs_one_byte :
    readAt (writeAt .reset 0x238 0xAABBCCDD) 0x238 = 0x000000DD := by decide +kernel
theorem test_read_only_and_low_offset_bits_ignored :
    writeAt x3Seeded 0x016 0x12345678 = x3Seeded := by decide +kernel
theorem test_status_write_clears_ones_only :
    (writeAt { x3Seeded with errState := true, errBusy := true } 4 0x00000200).statusWord = 0x00000804 := by
  decide +kernel
theorem test_data_write_while_busy :
    (writeAt { x3Constructed with pending := some .init } 0x200 0xFFFFFFFF).statusWord = 0x00000803
      ∧ (writeAt { x3Constructed with pending := some .init } 0x200 0xFFFFFFFF).data = x3Constructed.data := by
  decide +kernel
theorem test_read_fn_while_busy_draws :
    readAt { x3Constructed with pending := some .init } 0x014 = Config.freeValue 0 := rfl

/-! ### Witnesses: states and operands that meet the hypotheses of each obligation, clause by clause -/

/-- An idle state in a given phase. -/
def inPhase (p : Phase) : State := { State.reset with phase := p }

/-- A state with INIT pending. -/
def initPending : State := { inPhase .constructed with pending := some .init }

/-- A state with GET_FRAME pending. -/
def getPending : State := { inPhase .seeded with pending := some .getFrame }

/-- A state with CIPHER_FRAME pending. -/
def cipherPending (len : BitVec 6) : State := { inPhase .seeded with pending := some (.cipherFrame len) }

theorem witness_KeystreamFrameBits : 0 < 57 ∧ 56 < 57 ∧ 7 < 8 := by decide
theorem witness_NopRule : State.reset.busy = false ∧ initPending.busy = true := by decide
theorem witness_ConstructRule :
    (State.reset.busy = false ∧ { State.reset with frameIn := 0x003FFFFF }.frameIn.toNat < 2 ^ 22) ∧
    (State.reset.busy = false ∧ 2 ^ 22 ≤ { State.reset with frameIn := 0x00400000 }.frameIn.toNat) ∧
    initPending.busy = true := by decide
theorem witness_InitRule :
    ((inPhase .constructed).busy = false ∧ (inPhase .constructed).phase ≠ .none) ∧
    (State.reset.busy = false ∧ State.reset.phase = .none) ∧ initPending.busy = true := by decide
theorem witness_GetFrameRule :
    ((inPhase .seeded).busy = false ∧ (inPhase .seeded).phase = .seeded) ∧
    ((inPhase .extracting).busy = false ∧ (inPhase .extracting).phase = .extracting) ∧
    (State.reset.busy = false ∧ State.reset.phase = .none) ∧
    ((inPhase .constructed).busy = false ∧ (inPhase .constructed).phase = .constructed) ∧
    initPending.busy = true := by decide
theorem witness_IncFrameRule :
    ((inPhase .constructed).busy = false ∧ { inPhase .constructed with fn := 0x3FFFFE }.fn ≠ 0x3FFFFF) ∧
    ((inPhase .constructed).phase ≠ .none ∧ { inPhase .constructed with fn := 0x3FFFFF }.fn = 0x3FFFFF) ∧
    (State.reset.busy = false ∧ State.reset.phase = .none) ∧ initPending.busy = true := by decide
theorem witness_CipherFrameRule :
    ((inPhase .constructed).busy = false ∧ 1 ≤ (57 : BitVec 6).toNat ∧ (57 : BitVec 6).toNat ≤ 57 ∧
      1 ≤ (1 : BitVec 6).toNat ∧ (inPhase .constructed).phase ≠ .none) ∧
    (State.reset.busy = false ∧ (0 : BitVec 6).toNat = 0 ∧ 57 < (58 : BitVec 6).toNat) ∧
    (State.reset.busy = false ∧ State.reset.phase = .none) ∧ initPending.busy = true := by decide
theorem witness_SresetRule :
    (∃ t, exec .sreset getPending = .next t) ∧
    (0x00000106#32).extractLsb' 0 4 = 6 ∧ 0x00000106#32 ≠ 6 ∧ State.reset.busy = false ∧ initPending.busy = true :=
  ⟨⟨_, rfl⟩, by decide⟩
theorem witness_DispatchPriority :
    ((∃ i, decode 6 = .ok i) ∧ (6#32).extractLsb' 0 4 = 6) ∧
    ((7#32).extractLsb' 0 4 ≠ 6 ∧ initPending.busy = true) ∧
    (State.reset.busy = false ∧ ¬ (7#32).extractLsb' 0 4 ≤ 6) ∧
    ((3#32).extractLsb' 0 4 = 3 ∧ (inPhase .constructed).busy = false ∧
      ¬ ((inPhase .constructed).phase = .seeded ∨ (inPhase .constructed).phase = .extracting)) ∧
    ((1#32).extractLsb' 0 4 = 1 ∧ 2 ^ 22 ≤ { State.reset with frameIn := 0x00400000 }.frameIn.toNat) ∧
    ((0#32).extractLsb' 0 4 ≠ 6 ∧ State.reset.busy = false) := by
  refine ⟨⟨⟨.sreset, by decide⟩, by decide⟩, by decide⟩
theorem witness_PhaseTable :
    (State.reset.busy = false ∧ (∃ t, exec .construct .reset = .next t)) ∧
    ((∃ t, exec .incFrame (inPhase .seeded) = .next t) ∧ (∃ t, exec .nop .reset = .next t)) ∧
    (∃ t, exec .sreset getPending = .next t) ∧ (∃ t, exec .init (inPhase .constructed) = .next t) ∧
    (∃ t, exec .getFrame (inPhase .seeded) = .next t) ∧
    (∃ t, exec (.cipherFrame 1) (inPhase .seeded) = .next t) ∧
    ((∃ t, step (initPending.withNext .sequencer) = .next t) ∧ initPending.pending = some .init) ∧
    ((∃ t, step (getPending.withNext .sequencer) = .next t) ∧ getPending.pending = some .getFrame) ∧
    ((∃ t, step ((cipherPending 57).withNext .sequencer) = .next t) ∧
      (cipherPending 57).pending = some (.cipherFrame 57)) ∧
    (State.reset.phase = .none ∧ (inPhase .constructed).phase = .constructed ∧ (inPhase .seeded).phase ≠ .none) ∧
    (initPending.busy = true ∧ Instr.nop ≠ .sreset) :=
  ⟨⟨by decide, _, rfl⟩, ⟨⟨_, rfl⟩, _, rfl⟩, ⟨_, rfl⟩, ⟨_, rfl⟩, ⟨_, rfl⟩, ⟨_, rfl⟩, ⟨⟨_, rfl⟩, rfl⟩, ⟨⟨_, rfl⟩, rfl⟩,
    ⟨⟨_, rfl⟩, rfl⟩, by decide, by decide⟩
theorem witness_Frames :
    (∃ t, exec .nop .reset = .next t) ∧ (∃ t, exec .incFrame (inPhase .seeded) = .next t) ∧
    (∃ t, exec .construct .reset = .next t) ∧ (∃ t, exec .init (inPhase .seeded) = .next t) ∧
    (∃ t, exec .getFrame (inPhase .seeded) = .next t) ∧ (∃ t, exec (.cipherFrame 57) (inPhase .seeded) = .next t) ∧
    (∃ t, step ((cipherPending 1).withNext .sequencer) = .next t) ∧ getPending.pending = some .getFrame ∧
    ¬ (0x100 ≤ 0xFF ∧ 0xFF < 0x100 + 57) ∧ ¬ (0x200 ≤ 0x201 ∧ 0x201 < 0x200 + (1 : BitVec 6).toNat) :=
  ⟨⟨_, rfl⟩, ⟨_, rfl⟩, ⟨_, rfl⟩, ⟨_, rfl⟩, ⟨_, rfl⟩, ⟨_, rfl⟩, ⟨_, rfl⟩, rfl, by decide, by decide⟩
theorem witness_RoundTrip : (Instr.cipherFrame 57).wf = true ∧ decode 0x00000105 = .ok (.cipherFrame 1) := by decide
theorem witness_StepRunsDecodedCommand :
    decode (BitVec.ofNat 32 0x3905) = .ok (.cipherFrame 57) ∧ 0x3905 < 2 ^ 32 ∧ decode 6#32 = .ok .sreset ∧ 3 < 4 := by
  decide
theorem witness_LegalWordsRule :
    (0x00003A05#32).extractLsb' 0 4 = 5 ∧ ¬ ((0x00003A05#32).extractLsb' 8 6).toNat ≤ 57 ∧
    State.reset.busy = false ∧ initPending.busy = true := by decide
theorem witness_SequencerTurn :
    State.reset.inputs = [] ∧ State.reset.pending = none ∧ initPending.inputs = [] ∧ initPending.pending = some .init := by
  decide
theorem witness_Reads :
    State.reset.busy = false ∧ initPending.busy = true ∧ 0xFFF < 4096 ∧ 0x003 &&& 0xFFC = 0x000 ∧
    0x007 &&& 0xFFC = 0x004 ∧ 0x00B &&& 0xFFC = 0x008 ∧ 0x00F &&& 0xFFC = 0x00C ∧ 0x013 &&& 0xFFC = 0x010 ∧
    0x017 &&& 0xFFC = 0x014 ∧ 0x01B &&& 0xFFC = 0x018 ∧ 0x01F &&& 0xFFC = 0x01C ∧ 0x023 &&& 0xFFC = 0x020 ∧
    0x103 &&& 0xFFC = 0x100 + 4 * 0 ∧ 0x13B &&& 0xFFC = 0x100 + 4 * 14 ∧ 0x203 &&& 0xFFC = 0x200 + 4 * 0 ∧
    0x23B &&& 0xFFC = 0x200 + 4 * 14 ∧ (0x024 ≤ 0x0FF ∧ 0x0FF < 0x100) ∧ (0x13C ≤ 0x1FF ∧ 0x1FF < 0x200) ∧
    0x23C ≤ 0xFFF := by decide
theorem witness_Writes :
    State.reset.busy = false ∧ initPending.busy = true ∧ decode 0#32 = .ok .nop ∧ decode 7#32 = .error (.reservedOp 7) ∧
    (0x014 ≤ 0x1FF ∧ 0x1FF < 0x200) ∧ (0x200 ≤ 0x23B ∧ 0x23B < 0x23C) ∧ 0x23C ≤ 0xFFF ∧
    (0x00000106 : Word) ≠ 0x00000006 := by decide
theorem witness_OutsideWindow :
    pBase State.reset.build + 4096 ≤ 4096 ∧ 4095 < pBase { State.reset.build with basePage := 1 } := by decide
theorem witness_DataWordReadsBack : State.reset.busy = false ∧ 14 < 15 := by decide
theorem witness_AccessSideEffects : 8 ≤ 8 ∧ 4095 < 4096 := by decide
theorem witness_StepKeepsInv :
    State.reset.Inv ∧ State.reset.inputs.head? ≠ some .powerLoss ∧ ∃ t, step .reset = .next t :=
  ⟨⟨by simp [State.reset, State.resetOf], by simp [State.reset, State.resetOf], by simp [State.reset, State.resetOf],
    by simp [State.reset, State.resetOf]⟩, by decide, _, rfl⟩
theorem witness_HostAccess :
    ¬ State.reset.isSresetWrite (.write 3 1) ∧
      ∃ t, step (State.reset.withNext (.write 3 1)) = .next t := by
  refine ⟨?_, _, rfl⟩
  rintro ⟨off, -, h⟩
  simp [State.writeInput] at h
theorem witness_StatusBitsAreSticky :
    let s := { State.reset with errSeed := true, errState := true, errCmd := true, errBusy := true, fnWrap := true }
    (Input.sequencer ≠ .reset ∧ Input.sequencer ≠ .powerLoss ∧ ¬ s.isSresetWrite .sequencer) ∧
      (∃ t, step (s.withNext .sequencer) = .next t) ∧ s.inputs = [] ∧ ∃ t, step s = .next t := by
  refine ⟨⟨by decide, by decide, ?_⟩, ⟨_, rfl⟩, rfl, _, rfl⟩
  rintro ⟨off, -, h⟩
  simp [State.writeInput] at h
theorem witness_StatusBitsSetOnlyByTheirCauses :
    (∃ t, step ({ State.reset with frameIn := 0x00400000 }.withNext (.write 0 1)) = .next t ∧ t.errSeed = true) ∧
    (∃ t, step (State.reset.withNext (.write 0 2)) = .next t ∧ t.errState = true) ∧
    (∃ t, step (State.reset.withNext (.write 0 7)) = .next t ∧ t.errCmd = true) ∧
    (∃ t, step (initPending.withNext (.write 0x200 7)) = .next t ∧ t.errBusy = true) ∧
    (∃ t, step ({ inPhase .seeded with fn := 0x3FFFFF }.withNext (.write 0 4)) = .next t ∧ t.fnWrap = true) ∧
    (∃ t, step ({ cipherPending 1 with fbase := 0x3FFFFF, fidx := 1 }.withNext .sequencer) = .next t ∧
      t.fnWrap = true) ∧
    (∃ t, step { cipherPending 1 with fbase := 0x3FFFFF, fidx := 1 } = .next t ∧ t.fnWrap = true) :=
  ⟨⟨_, rfl, rfl⟩, ⟨_, rfl, rfl⟩, ⟨_, rfl, rfl⟩, ⟨_, rfl, rfl⟩, ⟨_, rfl, rfl⟩, ⟨_, rfl, rfl⟩, ⟨_, rfl, rfl⟩⟩
theorem witness_Secrets :
    let s := { State.reset with inputs := [.read 0x100] }
    s.SameToHost { s with key := 1 } ∧ s.inputs ≠ [] ∧ s.inputs.head? ≠ some .sequencer ∧ ∃ t, step s = .next t :=
  ⟨rfl, by decide, by decide, _, rfl⟩
theorem witness_StagingWrites :
    8 ≤ 8 ∧ 0x13 < 0x14 ∧ (∃ t, step (initPending.withNext (initPending.writeInput 0x13 5)) = .next t) ∧
      ∃ u, step (initPending.withNext .sequencer) = .next u := ⟨by decide, by decide, ⟨_, rfl⟩, _, rfl⟩
theorem witness_Completions :
    (cipherPending 57).pending = some (.cipherFrame 57) ∧
    ∃ t, step ((cipherPending 57).withNext .sequencer) = .next t ∧
      ∃ u, step ({ cipherPending 57 with data := t.data }.withNext .sequencer) = .next u := ⟨rfl, _, rfl, _, rfl⟩
theorem witness_SecondFrameContinues :
    (inPhase .seeded).busy = false ∧ ∃ a, exec .getFrame (inPhase .seeded) = .next a ∧
      a.pending = some .getFrame ∧ ∃ b, step (a.withNext .sequencer) = .next b ∧
      ∃ c, exec .getFrame b = .next c ∧ ∃ d, step (c.withNext .sequencer) = .next d :=
  ⟨rfl, _, rfl, rfl, _, rfl, _, rfl, _, rfl⟩
theorem witness_KeystreamDependsOnlyOnSeed :
    initPending.pending = some .init ∧ initPending.bank = { initPending with keyLo := 1 }.bank ∧
    ∃ a, step (initPending.withNext .sequencer) = .next a ∧ ∃ b, exec .getFrame a = .next b ∧
      ∃ c, step (b.withNext .sequencer) = .next c := ⟨rfl, rfl, _, rfl, _, rfl, _, rfl⟩
theorem witness_KeystreamDependsOnlyOnSeed_clear :
    let s := { initPending with build := ⟨0, false, true⟩ }
    s.pending = some .init ∧ s.build.clearOnInit = true ∧ { s with bank := ⟨1, 1, 1⟩ }.bank ≠ s.bank := by decide
theorem witness_PendingCommandCompletesUnlessReset :
    let reads := [Input.read 0x100, Input.write 0 1, Input.write 0x23B 5]
    let s := { initPending with inputs := reads }
    (∀ e ∈ s.inputs, e ≠ .reset ∧ e ≠ .powerLoss ∧ ¬ s.isSresetWrite e) ∧ s.busy = true ∧ s.pending = some .init ∧
      getPending.pending = some .getFrame ∧ getPending.inputs = [] ∧
      (cipherPending 57).pending = some (.cipherFrame 57) ∧
      2 ^ 22 ≤ { cipherPending 57 with fbase := 0x3FFFFF, fidx := 1 }.frameSum := by
  refine ⟨?_, by decide⟩
  intro e he
  simp only [List.mem_cons, List.not_mem_nil, or_false] at he
  rcases he with rfl | rfl | rfl <;> refine ⟨by decide, by decide, ?_⟩ <;> rintro ⟨off, hoff, h⟩ <;>
    simp [State.writeInput] at h
theorem witness_ResetDefinesState :
    ∃ t, step (State.reset.withNext .powerLoss) = .next t ∧ ∃ u, step (t.withNext .reset) = .next u :=
  ⟨_, rfl, _, rfl⟩

end Sys2Proof.Tests
end

section
/-! PROOFS. The decoder read backwards: what a word is when it decodes to a command (spec 30_encoding.md
R47 to R49). -/

namespace Sys2Proof

theorem withoutLen_eq_ok_iff (len : BitVec 6) (i j : Instr) :
    withoutLen len i = .ok j ↔ len = 0 ∧ i = j := by
  unfold withoutLen
  split <;> simp_all

/-- The fields of a word that stands for the command i, and that i is well formed. -/
def IsWordOf (v : Word) (i : Instr) : Prop :=
  reservedZero v = true ∧ opField v = opcode i ∧ lenField v = encodedLen i ∧ i.wf = true

/-- A row of the decoder whose command takes no LEN. -/
theorem isWordOf_of_withoutLen {v : Word} {i j : Instr} (hr : reservedZero v = true)
    (hop : (opField v).toNat = (opcode j).toNat) (hj : encodedLen j = 0) (hwf : j.wf = true)
    (h : withoutLen (lenField v) j = .ok i) : IsWordOf v i := by
  obtain ⟨hlen, rfl⟩ := (withoutLen_eq_ok_iff _ _ _).mp h
  exact ⟨hr, BitVec.eq_of_toNat_eq hop, hlen.trans hj.symm, hwf⟩

theorem isWordOf_of_decode {v : Word} {i : Instr} (h : decode v = .ok i) : IsWordOf v i := by
  unfold decode at h
  split at h
  case isFalse => cases h
  case isTrue hr =>
    split at h
    case h_6 hop =>
      split at h
      case isFalse => cases h
      case isTrue hlen =>
        cases h
        exact ⟨hr, BitVec.eq_of_toNat_eq hop, rfl, (Machine.wf_cipherFrame _).trans hlen⟩
    case h_8 => cases h
    all_goals exact isWordOf_of_withoutLen hr ‹_› rfl rfl h

/-- A word is its four fields side by side (R47). -/
theorem word_eq_append_fields (v : Word) :
    v = v.extractLsb' 14 18 ++ lenField v ++ v.extractLsb' 4 4 ++ opField v := by
  ext k hk
  simp only [lenField, opField]
  grind

/-- A word that decodes to a command is the word the encoder gives for it (R47 to R49). -/
theorem encode_of_decode {v : Word} {i : Instr} (h : decode v = .ok i) : encode i = v := by
  obtain ⟨hr, hop, hlen, -⟩ := isWordOf_of_decode h
  obtain ⟨hlow, hhigh⟩ : v.extractLsb' 4 4 = 0 ∧ v.extractLsb' 14 18 = 0 := by
    simpa [reservedZero] using hr
  rw [word_eq_append_fields v, hlow, hhigh, hop, hlen]
  rfl

theorem wf_of_decode {v : Word} {i : Instr} (h : decode v = .ok i) : i.wf = true := by
  obtain ⟨-, -, -, hwf⟩ := isWordOf_of_decode h
  exact hwf

end Sys2Proof
end

section
/-! PROOFS. Everything one input can do to the block, as two inductive relations with one inversion theorem
each (spec 20_memory.md R36 to R39, 41_generator_commands.md R65, 42_frame_cipher.md R75), and the fields
that CONSTRUCT and the sequencer's step leave. -/

namespace Sys2Proof.Machine

/-! ### CONSTRUCT and the sequencer's step, field by field -/

/-- Both ways CONSTRUCT can end (41_generator_commands.md R67). -/
theorem construct_cases (s : State) :
    (s.frameInRange = true ∧ construct s = { s with
      ksv := false
      key := s.candidateKey
      fn := s.frameIn.setWidth 22
      fbase := s.frameIn.setWidth 22
      fidx := 0
      phase := .constructed }) ∨
    (s.frameInRange = false ∧ construct s = raise .seed { s with ksv := false, phase := .none }) := by
  unfold construct
  cases s.frameInRange <;> simp

@[simp] theorem construct_build (s : State) : (construct s).build = s.build := by
  obtain ⟨-, h⟩ | ⟨-, h⟩ := construct_cases s <;> simp [h]
@[simp] theorem construct_bank (s : State) : (construct s).bank = s.bank := by
  obtain ⟨-, h⟩ | ⟨-, h⟩ := construct_cases s <;> simp [h]
@[simp] theorem construct_ks (s : State) : (construct s).ks = s.ks := by
  obtain ⟨-, h⟩ | ⟨-, h⟩ := construct_cases s <;> simp [h]
@[simp] theorem construct_ksv (s : State) : (construct s).ksv = false := by
  obtain ⟨-, h⟩ | ⟨-, h⟩ := construct_cases s <;> simp [h]
@[simp] theorem construct_pending (s : State) : (construct s).pending = s.pending := by
  obtain ⟨-, h⟩ | ⟨-, h⟩ := construct_cases s <;> simp [h]
@[simp] theorem construct_errSeed (s : State) :
    (construct s).errSeed = (s.errSeed || !s.frameInRange) := by
  obtain ⟨hr, h⟩ | ⟨hr, h⟩ := construct_cases s <;> simp [h, hr]
@[simp] theorem construct_errState (s : State) : (construct s).errState = s.errState := by
  obtain ⟨-, h⟩ | ⟨-, h⟩ := construct_cases s <;> simp [h]
@[simp] theorem construct_errCmd (s : State) : (construct s).errCmd = s.errCmd := by
  obtain ⟨-, h⟩ | ⟨-, h⟩ := construct_cases s <;> simp [h]
@[simp] theorem construct_errBusy (s : State) : (construct s).errBusy = s.errBusy := by
  obtain ⟨-, h⟩ | ⟨-, h⟩ := construct_cases s <;> simp [h]
@[simp] theorem construct_fnWrap (s : State) : (construct s).fnWrap = s.fnWrap := by
  obtain ⟨-, h⟩ | ⟨-, h⟩ := construct_cases s <;> simp [h]

/-- Every way a turn of the sequencer can end (41_generator_commands.md R73). -/
theorem sequencerStep_cases (s : State) :
    (s.pending = none ∧ sequencerStep s = s) ∨
    (s.pending = some .init ∧ sequencerStep s = completeInit s) ∨
    (s.pending = some .getFrame ∧ sequencerStep s = completeGetFrame s) ∨
    (∃ len, s.pending = some (.cipherFrame len) ∧ sequencerStep s = completeCipherFrame len s) := by
  match h : s.pending with
  | none => exact .inl ⟨rfl, sequencerStep_none h⟩
  | some .init => exact .inr (.inl ⟨rfl, sequencerStep_init h⟩)
  | some .getFrame => exact .inr (.inr (.inl ⟨rfl, sequencerStep_getFrame h⟩))
  | some (.cipherFrame len) => exact .inr (.inr (.inr ⟨len, rfl, sequencerStep_cipherFrame h⟩))

@[simp] theorem sequencerStep_build (s : State) : (sequencerStep s).build = s.build := by
  obtain ⟨-, h⟩ | ⟨-, h⟩ | ⟨-, h⟩ | ⟨len, -, h⟩ := sequencerStep_cases s <;> simp [h]
@[simp] theorem sequencerStep_errSeed (s : State) : (sequencerStep s).errSeed = s.errSeed := by
  obtain ⟨-, h⟩ | ⟨-, h⟩ | ⟨-, h⟩ | ⟨len, -, h⟩ := sequencerStep_cases s <;> simp [h]
@[simp] theorem sequencerStep_errState (s : State) : (sequencerStep s).errState = s.errState := by
  obtain ⟨-, h⟩ | ⟨-, h⟩ | ⟨-, h⟩ | ⟨len, -, h⟩ := sequencerStep_cases s <;> simp [h]
@[simp] theorem sequencerStep_errCmd (s : State) : (sequencerStep s).errCmd = s.errCmd := by
  obtain ⟨-, h⟩ | ⟨-, h⟩ | ⟨-, h⟩ | ⟨len, -, h⟩ := sequencerStep_cases s <;> simp [h]
@[simp] theorem sequencerStep_errBusy (s : State) : (sequencerStep s).errBusy = s.errBusy := by
  obtain ⟨-, h⟩ | ⟨-, h⟩ | ⟨-, h⟩ | ⟨len, -, h⟩ := sequencerStep_cases s <;> simp [h]

@[simp] theorem losePower_build (s : State) : (losePower s).build = s.build := rfl

/-! ### What a command does at its CMD write -/

/-- The command that a pending slot holds (10_state.md R27). -/
def Pending.instr : Pending → Instr
  | .init => .init
  | .getFrame => .getFrame
  | .cipherFrame len => .cipherFrame len

/-- The phase of s refuses i (41_generator_commands.md R65). -/
def State.PhaseRefuses (s : State) (i : Instr) : Prop :=
  s.phase = .none ∧ (i = .init ∨ i = .incFrame ∨ ∃ len, i = .cipherFrame len) ∨
    (s.phase = .none ∨ s.phase = .constructed) ∧ i = .getFrame

theorem phaseRefuses_of_not_hasContext {s : State} {i : Instr} (h : s.hasContext = false)
    (hi : i = .init ∨ i = .incFrame ∨ ∃ len, i = .cipherFrame len) : s.PhaseRefuses i := by
  have hp : s.phase = .none := by simpa [State.hasContext] using h
  exact .inl ⟨hp, hi⟩

theorem phaseRefuses_getFrame_of_not_isSeeded {s : State} (h : s.isSeeded = false) :
    s.PhaseRefuses .getFrame := by
  have hp : s.phase = .none ∨ s.phase = .constructed := by
    cases hp : s.phase <;> simp_all [State.isSeeded]
  exact .inr ⟨hp, rfl⟩

/-- `CommandEffect s i t`: at its CMD write the command i takes s to t, and why (R65). -/
inductive CommandEffect (s : State) : Instr → State → Prop
  | sreset : CommandEffect s .sreset (resetBlock s)
  | busyError {i : Instr} (hb : s.busy = true) (hi : i ≠ .sreset) : CommandEffect s i (raise .busy s)
  | commandError {i : Instr} (hb : s.busy = false) (hwf : i.wf = false) :
      CommandEffect s i (raise .command s)
  | stateError {i : Instr} (hb : s.busy = false) (hp : s.PhaseRefuses i) :
      CommandEffect s i (raise .state s)
  | nop (hb : s.busy = false) : CommandEffect s .nop s
  | construct (hb : s.busy = false) : CommandEffect s .construct (construct s)
  | incFrame (hb : s.busy = false) (hp : s.phase ≠ .none) : CommandEffect s .incFrame (incFrame s)
  | accepted {c : Pending} (hb : s.busy = false) (hadm : admittedIn c s.phase = true)
      (hlen : pendingLenLegal c = true) : CommandEffect s c.instr (accept c s)

/-- `dispatch_cases` for the state that a CMD write answers. -/
theorem dispatch_eq_next {legal admitted : Bool} {f : State → State} {s t : State}
    (h : dispatch legal admitted f s = .next t) :
    (s.busy = true ∧ t = raise .busy s) ∨
    (s.busy = false ∧ legal = false ∧ t = raise .command s) ∨
    (s.busy = false ∧ legal = true ∧ admitted = false ∧ t = raise .state s) ∨
    (s.busy = false ∧ legal = true ∧ admitted = true ∧ t = f s) := by
  simpa [h] using dispatch_cases legal admitted f s

/-! Each command but SRESET is one `dispatch` (41_generator_commands.md R66 to R70, 42_frame_cipher.md R75). -/

theorem exec_nop (s : State) : exec .nop s = dispatch true true (fun t => t) s := rfl
theorem exec_construct (s : State) : exec .construct s = dispatch true true construct s := rfl
theorem exec_incFrame (s : State) : exec .incFrame s = dispatch true s.hasContext incFrame s := rfl
theorem exec_init (s : State) : exec .init s = dispatch true s.hasContext (accept .init) s := rfl
theorem exec_getFrame (s : State) : exec .getFrame s = dispatch true s.isSeeded (accept .getFrame) s := rfl
theorem exec_cipherFrame (len : BitVec 6) (s : State) :
    exec (.cipherFrame len) s = dispatch (lenLegal len) s.hasContext (accept (.cipherFrame len)) s := rfl

theorem exec_effect {i : Instr} {s t : State} (h : exec i s = .next t) : CommandEffect s i t := by
  cases i with
  | sreset =>
    cases h
    exact .sreset
  | nop =>
    rw [exec_nop] at h
    obtain ⟨hb, rfl⟩ | ⟨-, ⟨⟩, -⟩ | ⟨-, -, ⟨⟩, -⟩ | ⟨hb, -, -, rfl⟩ := dispatch_eq_next h
    · exact .busyError hb (by decide)
    · exact .nop hb
  | construct =>
    rw [exec_construct] at h
    obtain ⟨hb, rfl⟩ | ⟨-, ⟨⟩, -⟩ | ⟨-, -, ⟨⟩, -⟩ | ⟨hb, -, -, rfl⟩ := dispatch_eq_next h
    · exact .busyError hb (by decide)
    · exact .construct hb
  | incFrame =>
    rw [exec_incFrame] at h
    obtain ⟨hb, rfl⟩ | ⟨-, ⟨⟩, -⟩ | ⟨hb, -, ha, rfl⟩ | ⟨hb, -, ha, rfl⟩ := dispatch_eq_next h
    · exact .busyError hb (by decide)
    · exact .stateError hb (phaseRefuses_of_not_hasContext ha (by simp))
    · exact .incFrame hb ((hasContext_eq_true_iff s).mp ha)
  | init =>
    rw [exec_init] at h
    obtain ⟨hb, rfl⟩ | ⟨-, ⟨⟩, -⟩ | ⟨hb, -, ha, rfl⟩ | ⟨hb, -, ha, rfl⟩ := dispatch_eq_next h
    · exact .busyError hb (by decide)
    · exact .stateError hb (phaseRefuses_of_not_hasContext ha (by simp))
    · exact .accepted (c := .init) hb ha rfl
  | getFrame =>
    rw [exec_getFrame] at h
    obtain ⟨hb, rfl⟩ | ⟨-, ⟨⟩, -⟩ | ⟨hb, -, ha, rfl⟩ | ⟨hb, -, ha, rfl⟩ := dispatch_eq_next h
    · exact .busyError hb (by decide)
    · exact .stateError hb (phaseRefuses_getFrame_of_not_isSeeded ha)
    · exact .accepted (c := .getFrame) hb ha rfl
  | cipherFrame len =>
    rw [exec_cipherFrame] at h
    obtain ⟨hb, rfl⟩ | ⟨hb, hl, rfl⟩ | ⟨hb, -, ha, rfl⟩ | ⟨hb, hl, ha, rfl⟩ := dispatch_eq_next h
    · exact .busyError hb (by simp)
    · exact .commandError hb ((wf_cipherFrame len).trans hl)
    · exact .stateError hb (phaseRefuses_of_not_hasContext ha (by simp))
    · exact .accepted (c := .cipherFrame len) hb ha hl

/-! ### What an input does -/

/-- `Effect s e t`: the input e takes s to t, and why. A write's offset is given with the word of the window
that it falls in (20_memory.md R32). -/
inductive Effect (s : State) : Input → State → Prop
  | read (addr : Nat) (r : Word) (d : Nat) : Effect s (.read addr) { s with rdata := r, draws := d }
  | ignored (addr : Nat) (v : Word) : Effect s (.write addr v) s
  | command {off : Nat} {v : Word} {i : Instr} {t : State} (hw : windowWord (wordOffset off) = .cmd)
      (hd : decode v = .ok i) (hc : CommandEffect s i t) : Effect s (s.writeInput off v) t
  | illegalBusy {off : Nat} {v : Word} (hw : windowWord (wordOffset off) = .cmd)
      (hd : ∀ i, decode v ≠ .ok i) (hb : s.busy = true) : Effect s (s.writeInput off v) (raise .busy s)
  | illegal {off : Nat} {v : Word} (hw : windowWord (wordOffset off) = .cmd)
      (hd : ∀ i, decode v ≠ .ok i) (hb : s.busy = false) : Effect s (s.writeInput off v) (raise .command s)
  | status {off : Nat} {v : Word} (hw : windowWord (wordOffset off) = .status) :
      Effect s (s.writeInput off v) (clearStatus v s)
  | keyLo {off : Nat} {v : Word} (hw : windowWord (wordOffset off) = .keyLo) :
      Effect s (s.writeInput off v) { s with keyLo := v }
  | keyHi {off : Nat} {v : Word} (hw : windowWord (wordOffset off) = .keyHi) :
      Effect s (s.writeInput off v) { s with keyHi := v }
  | frameIn {off : Nat} {v : Word} (hw : windowWord (wordOffset off) = .frameIn) :
      Effect s (s.writeInput off v) { s with frameIn := v }
  | dataBusy {off j : Nat} {v : Word} (hw : windowWord (wordOffset off) = .data j) (hb : s.busy = true) :
      Effect s (s.writeInput off v) (raise .busy s)
  | dataStore {off j : Nat} {v : Word} (hw : windowWord (wordOffset off) = .data j) (hb : s.busy = false) :
      Effect s (s.writeInput off v) { s with data := storeWord s.data j v }
  | sequencer : Effect s .sequencer (sequencerStep s)
  | reset : Effect s .reset (resetBlock s)
  | powerLoss : Effect s .powerLoss (losePower s)

/-- A read changes no state of the block (20_memory.md R40). -/
theorem hostRead_effect (addr : Nat) (s : State) : Effect s (.read addr) (hostRead addr s) := by
  unfold hostRead
  split
  case h_1 off _ =>
    obtain h | h := readOffset_eq off s <;> rw [h]
    · exact .read addr _ _
    · exact .read addr _ s.draws
  case h_2 => exact .read addr s.rdata s.draws

/-- A write to the CMD word runs a command or is refused (41_generator_commands.md R65). -/
theorem writeCommand_effect {off : Nat} {v : Word} {s t : State} (hw : windowWord (wordOffset off) = .cmd)
    (h : writeCommand v s = .next t) : Effect s (s.writeInput off v) t := by
  obtain ⟨i, hd, e⟩ | ⟨hd, hb, e⟩ | ⟨hd, hb, e⟩ := writeCommand_cases v s <;> rw [e] at h
  · exact .command hw hd (exec_effect h)
  · cases h
    exact .illegalBusy hw hd hb
  · cases h
    exact .illegal hw hd hb

theorem writeWord_effect {off : Nat} {v : Word} {s t : State}
    (h : writeWord v s (windowWord (wordOffset off)) = .next t) : Effect s (s.writeInput off v) t := by
  obtain ⟨hw, e⟩ | ⟨hw, e⟩ | ⟨hw, e⟩ | ⟨hw, e⟩ | ⟨hw, e⟩ | ⟨j, hw, hb, e⟩ | ⟨j, hw, hb, e⟩ | e :=
    writeWord_cases v s (windowWord (wordOffset off)) <;> rw [e] at h
  · exact writeCommand_effect hw h
  all_goals cases h
  · exact .status hw
  · exact .keyLo hw
  · exact .keyHi hw
  · exact .frameIn hw
  · exact .dataBusy hw hb
  · exact .dataStore hw hb
  · exact .ignored _ v

theorem hostWrite_effect {addr : Nat} {v : Word} {s t : State} (h : hostWrite addr v s = .next t) :
    Effect s (.write addr v) t := by
  unfold hostWrite at h
  obtain e | ⟨off, -, rfl, e⟩ := windowOffset_cases s.build addr <;> rw [e] at h
  · cases h
    exact .ignored addr v
  · exact writeWord_effect h

/-- Every step of an input is one of the effects. -/
theorem perform_effect {e : Input} {s t : State} (h : perform e s = .next t) : Effect s e t := by
  cases e with
  | read addr =>
    cases h
    exact hostRead_effect addr s
  | write addr v => exact hostWrite_effect h
  | sequencer =>
    cases h
    exact .sequencer
  | reset =>
    cases h
    exact .reset
  | powerLoss =>
    cases h
    exact .powerLoss

/-- Every step is the effect of the next input, or the sequencer's when the host is silent (log 3). -/
theorem step_cases {s t : State} (h : step s = .next t) :
    (s.inputs = [] ∧ t = sequencerStep s) ∨ ∃ (r : State) (e : Input), s = r.withNext e ∧ Effect r e t := by
  obtain hs | ⟨r, e, rfl⟩ := inputs_cases s
  · rw [step_of_inputs_nil hs] at h
    cases h
    exact .inl ⟨hs, rfl⟩
  · exact .inr ⟨r, e, rfl, perform_effect h⟩

/-! ### Offsets of the CMD and DATA words (20_memory.md R30, R32) -/

theorem off_lt_four_of_cmd {off : Nat} (h : windowWord (wordOffset off) = .cmd) : off < 4 := by
  have h0 : wordOffset off = 0 := (windowWord_eq_cmd_iff _).mp h
  unfold wordOffset at h0
  omega

theorem bounds_of_windowWord_eq_data {a j : Nat} (h : windowWord a = .data j) : 0x200 ≤ a ∧ a < 0x23C := by
  by_contra hout
  unfold windowWord at h
  rw [if_neg hout] at h
  repeat' split at h
  all_goals cases h

theorem bounds_of_data {off j : Nat} (h : windowWord (wordOffset off) = .data j) :
    0x200 ≤ off ∧ off < 0x23C := by
  have hb := bounds_of_windowWord_eq_data h
  unfold wordOffset at hb
  omega

end Sys2Proof.Machine
end

section
/-! PROOFS. The invariant of the block (10_state.md R22, 20_memory.md R37, 41_generator_commands.md R65, R72). -/

namespace Sys2Proof.Machine

theorem inv_of_idle {s : State} (hp : s.pending = none) (hk : s.ksv = true → s.phase = .extracting) : s.Inv where
  pendingAdmitted := by simp [hp]
  pendingLegal := by simp [hp]
  pendingKsv := by simp [hp]
  ksvPhase := hk

/-- The invariant speaks of PENDING, PHASE and KSV alone. -/
theorem State.Inv.congr {s t : State} (h : s.Inv) (hp : t.pending = s.pending) (hph : t.phase = s.phase)
    (hk : t.ksv = s.ksv) : t.Inv where
  pendingAdmitted := by rw [hp, hph]; exact h.pendingAdmitted
  pendingLegal := by rw [hp]; exact h.pendingLegal
  pendingKsv := by rw [hp, hk]; exact h.pendingKsv
  ksvPhase := by rw [hph, hk]; exact h.ksvPhase

theorem inv_raise {s : State} (h : s.Inv) (e : ErrorKind) : (raise e s).Inv := h.congr rfl rfl rfl

theorem inv_resetBlock (s : State) : (resetBlock s).Inv := inv_of_idle rfl (by simp)

theorem inv_construct {s : State} (hb : s.busy = false) : (construct s).Inv :=
  inv_of_idle ((construct_pending s).trans ((busy_eq_false_iff s).mp hb)) (by simp)

theorem inv_accept {s : State} {c : Pending} (hadm : admittedIn c s.phase = true)
    (hlen : pendingLenLegal c = true) : (accept c s).Inv where
  pendingAdmitted := by rintro _ ⟨⟩; exact hadm
  pendingLegal := by rintro _ ⟨⟩; exact hlen
  pendingKsv := by simp
  ksvPhase := by simp

/-- A completion empties PENDING; INIT's leaves KSV as the pending command has it, 0, and the other two leave
the phase at EXTRACTING. -/
theorem inv_sequencerStep {s : State} (h : s.Inv) : (sequencerStep s).Inv := by
  refine inv_of_idle (sequencerStep_pending s) ?_
  obtain ⟨-, e⟩ | ⟨hp, e⟩ | ⟨-, e⟩ | ⟨len, -, e⟩ := sequencerStep_cases s <;> rw [e]
  · exact h.ksvPhase
  · simp [h.pendingKsv _ hp]
  · simp
  · simp

theorem CommandEffect.inv {s t : State} {i : Instr} (h : CommandEffect s i t) (hs : s.Inv) : t.Inv := by
  cases h with
  | sreset => exact inv_resetBlock s
  | construct hb => exact inv_construct hb
  | accepted _ hadm hlen => exact inv_accept hadm hlen
  | nop => exact hs
  | incFrame => exact hs.congr rfl rfl rfl
  | busyError | commandError | stateError => exact inv_raise hs _

theorem Effect.inv {s t : State} {e : Input} (h : Effect s e t) (he : e ≠ .powerLoss) (hs : s.Inv) : t.Inv := by
  cases h with
  | command _ _ hc => exact hc.inv hs
  | sequencer => exact inv_sequencerStep hs
  | reset => exact inv_resetBlock s
  | powerLoss => exact absurd rfl he
  | illegalBusy | illegal | dataBusy => exact inv_raise hs _
  | read | ignored | status | keyLo | keyHi | frameIn | dataStore => exact hs.congr rfl rfl rfl

/-- Settles O42: by the effects of an input, PENDING, PHASE and KSV stay, or a completion, CONSTRUCT or a reset
leaves the block idle, or a command goes pending that was admitted. -/
theorem stepKeepsInv : Obligations.StepKeepsInv := by
  intro s t hs hpower hstep
  obtain ⟨-, rfl⟩ | ⟨r, e, rfl, heff⟩ := step_cases hstep
  · exact inv_sequencerStep hs
  · have he : e ≠ .powerLoss := fun h => hpower (by simp [State.withNext, h])
    exact heff.inv he (hs.congr rfl rfl rfl)

end Sys2Proof.Machine
end

section
/-! PROOFS. What steps leave unchanged: CONFIG in every step (10_state.md R24), R1, R2, R3 and KS in a host
access other than an SRESET write (R17, R22). -/

namespace Sys2Proof.Machine

theorem CommandEffect.build {s t : State} {i : Instr} (h : CommandEffect s i t) : t.build = s.build := by
  cases h <;> simp

theorem Effect.build {s t : State} {e : Input} (h : Effect s e t) : t.build = s.build := by
  cases h with
  | command _ _ hc => exact hc.build
  | _ => simp

/-- CONFIG as a number: bit 0 and bit 1 (10_state.md R24). -/
theorem configWord_eq_ofNat (s : State) :
    s.configWord = BitVec.ofNat 32 (s.build.r3BugCompat.toNat + 2 * s.build.clearOnInit.toNat) := by
  unfold State.configWord
  cases s.build.r3BugCompat <;> cases s.build.clearOnInit <;> rfl

theorem readOffset_config (s : State) : readOffset 0x020 s = { s with rdata := s.configWord } := by
  have hw : windowWord (wordOffset 0x020) = .config := by decide
  simp [readOffset, hw, unsettledWhileBusy, readWord]

/-- Settles O43: no effect changes the build, and the CONFIG word is never unsettled. -/
theorem configIsConstant : Obligations.ConfigIsConstant := by
  refine ⟨fun s t hstep => ?_, fun s => ?_⟩
  · obtain ⟨-, rfl⟩ | ⟨r, e, rfl, heff⟩ := step_cases hstep
    · exact sequencerStep_build s
    · exact heff.build
  · rw [step_withNext, perform_readInput s (by decide), readOffset_config, configWord_eq_ofNat]

/-- Of the commands, SRESET alone touches the registers and KS at its CMD write. -/
theorem CommandEffect.bank_and_ks {s t : State} {i : Instr} (h : CommandEffect s i t) (hi : i ≠ .sreset) :
    t.bank = s.bank ∧ t.ks = s.ks := by
  cases h with
  | sreset => exact absurd rfl hi
  | _ => simp

theorem Effect.bank_and_ks_of_hostAccess {s t : State} {e : Input} (h : Effect s e t)
    (he : (∃ addr, e = .read addr) ∨ ∃ addr v, e = .write addr v) (hs : ¬ s.isSresetWrite e) :
    t.bank = s.bank ∧ t.ks = s.ks := by
  cases h with
  | command hw hd hc =>
    refine hc.bank_and_ks ?_
    rintro rfl
    exact hs ⟨_, off_lt_four_of_cmd hw, congrArg _ (encode_of_decode hd).symm⟩
  | sequencer | reset | powerLoss => simp at he
  | _ => simp

/-- Settles O44: a host access acts on the block by its effect alone, and the one command that touches R1, R2,
R3 or KS at once has no word but that of an SRESET write. -/
theorem hostAccessKeepsRegistersAndKs : Obligations.HostAccessKeepsRegistersAndKs :=
  fun _ _ _ he hs hstep => (perform_effect hstep).bank_and_ks_of_hostAccess he hs

end Sys2Proof.Machine
end

section
/-! PROOFS. The causes of the five sticky bits of STATUS (10_state.md R28, 60_exceptions.md R80 to R84): one
lemma for each bit over the effects of a command, and one over those of an input. -/

namespace Sys2Proof.Machine

section
variable {s t : State} {i : Instr} {e : Input}

/-! ### By a command -/

theorem CommandEffect.errSeed_cause (h : CommandEffect s i t) (ht : t.errSeed = true)
    (hs : s.errSeed = false) : s.busy = false ∧ 2 ^ 22 ≤ s.frameIn.toNat ∧ i = .construct := by
  cases h with
  | construct hb =>
    have hr : s.frameInRange = false := by simpa [hs] using ht
    exact ⟨hb, (frameInRange_eq_false_iff s).mp hr, rfl⟩
  | _ => simp [hs] at ht

theorem CommandEffect.errState_cause (h : CommandEffect s i t) (ht : t.errState = true)
    (hs : s.errState = false) : s.busy = false ∧ s.PhaseRefuses i := by
  cases h with
  | stateError hb hp => exact ⟨hb, hp⟩
  | _ => simp [hs] at ht

theorem CommandEffect.errCmd_cause (h : CommandEffect s i t) (ht : t.errCmd = true)
    (hs : s.errCmd = false) : s.busy = false ∧ i.wf = false := by
  cases h with
  | commandError hb hwf => exact ⟨hb, hwf⟩
  | _ => simp [hs] at ht

theorem CommandEffect.errBusy_cause (h : CommandEffect s i t) (ht : t.errBusy = true)
    (hs : s.errBusy = false) : s.busy = true ∧ i ≠ .sreset := by
  cases h with
  | busyError hb hi => exact ⟨hb, hi⟩
  | _ => simp [hs] at ht

theorem CommandEffect.fnWrap_cause (h : CommandEffect s i t) (ht : t.fnWrap = true)
    (hs : s.fnWrap = false) : s.busy = false ∧ s.fn = 0x3FFFFF ∧ i = .incFrame := by
  cases h with
  | incFrame hb _ =>
    have hfn : s.fn = 0x3FFFFF := by simpa [hs] using ht
    exact ⟨hb, hfn, rfl⟩
  | _ => simp [hs] at ht

/-! ### By an input -/

theorem Effect.errSeed_cause (h : Effect s e t) (he : e ≠ .powerLoss) (ht : t.errSeed = true)
    (hs : s.errSeed = false) :
    s.busy = false ∧ 2 ^ 22 ≤ s.frameIn.toNat ∧ ∃ off, off < 4 ∧ e = s.writeInput off 0x00000001 := by
  cases h with
  | command hw hd hc =>
    obtain ⟨hb, hframe, rfl⟩ := hc.errSeed_cause ht hs
    exact ⟨hb, hframe, _, off_lt_four_of_cmd hw, congrArg _ (encode_of_decode hd).symm⟩
  | powerLoss => exact absurd rfl he
  | _ => simp [hs] at ht

theorem Effect.errState_cause (h : Effect s e t) (he : e ≠ .powerLoss) (ht : t.errState = true)
    (hs : s.errState = false) :
    s.busy = false ∧ ∃ off v i, off < 4 ∧ e = s.writeInput off v ∧ decode v = .ok i ∧ s.PhaseRefuses i := by
  cases h with
  | command hw hd hc =>
    obtain ⟨hb, hp⟩ := hc.errState_cause ht hs
    exact ⟨hb, _, _, _, off_lt_four_of_cmd hw, rfl, hd, hp⟩
  | powerLoss => exact absurd rfl he
  | _ => simp [hs] at ht

/-- A word that decodes is well formed, so only an illegal word raises CommandError. -/
theorem Effect.errCmd_cause (h : Effect s e t) (he : e ≠ .powerLoss) (ht : t.errCmd = true)
    (hs : s.errCmd = false) :
    s.busy = false ∧ ∃ off v, off < 4 ∧ e = s.writeInput off v ∧ ∀ i, decode v ≠ .ok i := by
  cases h with
  | command _ hd hc =>
    obtain ⟨-, hwf⟩ := hc.errCmd_cause ht hs
    simp [wf_of_decode hd] at hwf
  | illegal hw hd hb => exact ⟨hb, _, _, off_lt_four_of_cmd hw, rfl, hd⟩
  | powerLoss => exact absurd rfl he
  | _ => simp [hs] at ht

theorem decode_sresetWord : decode 0x00000006 = .ok .sreset := by decide

theorem Effect.errBusy_cause (h : Effect s e t) (he : e ≠ .powerLoss) (ht : t.errBusy = true)
    (hs : s.errBusy = false) :
    s.busy = true ∧ ((∃ off v, off < 4 ∧ e = s.writeInput off v ∧ v ≠ 0x00000006) ∨
      ∃ off v, 0x200 ≤ off ∧ off < 0x23C ∧ e = s.writeInput off v) := by
  cases h with
  | command hw hd hc =>
    obtain ⟨hb, hi⟩ := hc.errBusy_cause ht hs
    refine ⟨hb, .inl ⟨_, _, off_lt_four_of_cmd hw, rfl, ?_⟩⟩
    rintro rfl
    exact hi (Except.ok.inj (hd.symm.trans decode_sresetWord))
  | illegalBusy hw hd hb =>
    refine ⟨hb, .inl ⟨_, _, off_lt_four_of_cmd hw, rfl, ?_⟩⟩
    rintro rfl
    exact hd _ decode_sresetWord
  | dataBusy hw hb =>
    obtain ⟨hlow, hhigh⟩ := bounds_of_data hw
    exact ⟨hb, .inr ⟨_, _, hlow, hhigh, rfl⟩⟩
  | powerLoss => exact absurd rfl he
  | _ => simp [hs] at ht

/-- Of the completions, CIPHER_FRAME's alone sets FN_WRAP (42_frame_cipher.md R75). -/
theorem sequencerStep_fnWrap_cause (ht : (sequencerStep s).fnWrap = true) (hs : s.fnWrap = false) :
    (∃ len, s.pending = some (.cipherFrame len)) ∧ 2 ^ 22 ≤ s.fbase.toNat + s.fidx.toNat := by
  obtain ⟨-, h⟩ | ⟨-, h⟩ | ⟨-, h⟩ | ⟨len, hp, h⟩ := sequencerStep_cases s <;> rw [h] at ht
  case inr.inr.inr =>
    have hsum : 0x400000 ≤ s.fbase.toNat + s.fidx.toNat := by simpa [hs, ble_frameSum] using ht
    exact ⟨⟨len, hp⟩, hsum⟩
  all_goals simp [hs] at ht

theorem Effect.fnWrap_cause (h : Effect s e t) (he : e ≠ .powerLoss) (ht : t.fnWrap = true)
    (hs : s.fnWrap = false) :
    (s.busy = false ∧ s.fn = 0x3FFFFF ∧ ∃ off, off < 4 ∧ e = s.writeInput off 0x00000004) ∨
      (e = .sequencer ∧ (∃ len, s.pending = some (.cipherFrame len)) ∧
        2 ^ 22 ≤ s.fbase.toNat + s.fidx.toNat) := by
  cases h with
  | command hw hd hc =>
    obtain ⟨hb, hfn, rfl⟩ := hc.fnWrap_cause ht hs
    exact .inl ⟨hb, hfn, _, off_lt_four_of_cmd hw, congrArg _ (encode_of_decode hd).symm⟩
  | sequencer => exact .inr ⟨rfl, sequencerStep_fnWrap_cause ht hs⟩
  | powerLoss => exact absurd rfl he
  | _ => simp [hs] at ht

end

/-- Settles O46: both forms of the step are one effect of the input, and each bit's cause is read off it. -/
theorem statusBitsSetOnlyByTheirCauses : Obligations.StatusBitsSetOnlyByTheirCauses := by
  intro s t e he hstep
  have heff : Effect s e t := by
    obtain h | ⟨rfl, hnil, h⟩ := hstep
    · exact perform_effect h
    · exact perform_effect ((step_silent hnil).symm.trans h)
  exact ⟨heff.errSeed_cause he, heff.errState_cause he, heff.errCmd_cause he, heff.errBusy_cause he,
    heff.fnWrap_cause he⟩

end Sys2Proof.Machine
end

section
/-! PROOFS. The register map by offset, what a host access at a window offset does, and that no step stops
(10_state.md R30, 20_memory.md R31, R32, R35, R40). -/

namespace Sys2Proof.Machine

/-! ### The register map (R30, R32, R35) -/

/-- `WordAt off r`: the window offset off, its bits 1:0 ignored, falls in the word r. -/
inductive WordAt (off : Nat) : WindowWord → Prop
  | cmd (h : off < 0x004) : WordAt off .cmd
  | status (h : 0x004 ≤ off ∧ off < 0x008) : WordAt off .status
  | keyLo (h : 0x008 ≤ off ∧ off < 0x00C) : WordAt off .keyLo
  | keyHi (h : 0x00C ≤ off ∧ off < 0x010) : WordAt off .keyHi
  | frameIn (h : 0x010 ≤ off ∧ off < 0x014) : WordAt off .frameIn
  | fn (h : 0x014 ≤ off ∧ off < 0x018) : WordAt off .fn
  | fbase (h : 0x018 ≤ off ∧ off < 0x01C) : WordAt off .fbase
  | fidx (h : 0x01C ≤ off ∧ off < 0x020) : WordAt off .fidx
  | config (h : 0x020 ≤ off ∧ off < 0x024) : WordAt off .config
  | ks (h : 0x100 ≤ off ∧ off < 0x13C) : WordAt off (.ks ((wordOffset off - 0x100) / 4))
  | data (h : 0x200 ≤ off ∧ off < 0x23C) : WordAt off (.data ((wordOffset off - 0x200) / 4))
  | reserved (h : 0x024 ≤ off ∧ off < 0x100 ∨ 0x13C ≤ off ∧ off < 0x200 ∨ 0x23C ≤ off) : WordAt off .reserved

theorem wordOffset_eq (off : Nat) : wordOffset off = 4 * (off / 4) := rfl

/-- Row by row of the register map: `iteInduction`, since `split` simplifies all the later rows again at each. -/
theorem wordAt_windowWord (off : Nat) : WordAt off (windowWord (wordOffset off)) := by
  have ha := wordOffset_eq off
  unfold windowWord
  refine iteInduction (motive := WordAt off) (fun _ => .cmd (by omega)) fun _ => ?_
  refine iteInduction (motive := WordAt off) (fun _ => .status (by omega)) fun _ => ?_
  refine iteInduction (motive := WordAt off) (fun _ => .keyLo (by omega)) fun _ => ?_
  refine iteInduction (motive := WordAt off) (fun _ => .keyHi (by omega)) fun _ => ?_
  refine iteInduction (motive := WordAt off) (fun _ => .frameIn (by omega)) fun _ => ?_
  refine iteInduction (motive := WordAt off) (fun _ => .fn (by omega)) fun _ => ?_
  refine iteInduction (motive := WordAt off) (fun _ => .fbase (by omega)) fun _ => ?_
  refine iteInduction (motive := WordAt off) (fun _ => .fidx (by omega)) fun _ => ?_
  refine iteInduction (motive := WordAt off) (fun _ => .config (by omega)) fun _ => ?_
  refine iteInduction (motive := WordAt off) (fun _ => .ks (by omega)) fun _ => ?_
  refine iteInduction (motive := WordAt off) (fun _ => .data (by omega)) fun _ => ?_
  exact .reserved (by omega)

/-- Reserved offsets, as R35 lists them. -/
theorem WordAt.eq_reserved {off : Nat} {r : WindowWord} (hw : WordAt off r)
    (h : 0x024 ≤ off ∧ off < 0x100 ∨ 0x13C ≤ off ∧ off < 0x200 ∨ 0x23C ≤ off) : r = .reserved := by
  cases hw with
  | reserved => rfl
  | _ => omega

/-- The words whose reads are free values while BUSY = 1, by their offsets (R37). -/
theorem WordAt.unsettledWhileBusy_iff {off : Nat} {r : WindowWord} (hw : WordAt off r) :
    unsettledWhileBusy r = true ↔
      wordOffset off = 0x014 ∨ wordOffset off = 0x01C ∨ 0x100 ≤ off ∧ off < 0x13C ∨ 0x200 ≤ off ∧ off < 0x23C := by
  have ha := wordOffset_eq off
  cases hw with
  | fn | fidx | ks | data => exact iff_of_true rfl (by omega)
  | _ => exact iff_of_false Bool.false_ne_true (by omega)

/-! ### No step stops (R32, 60_exceptions.md R86) -/

theorem exec_next (i : Instr) (s : State) : ∃ t, exec i s = .next t := by
  cases i <;> exact ⟨_, rfl⟩

theorem writeCommand_next (v : Word) (s : State) : ∃ t, writeCommand v s = .next t := by
  obtain ⟨i, -, e⟩ | ⟨-, -, e⟩ | ⟨-, -, e⟩ := writeCommand_cases v s
  · rw [e]
    exact exec_next i s
  all_goals exact ⟨_, e⟩

theorem writeWord_next (v : Word) (s : State) (r : WindowWord) : ∃ t, writeWord v s r = .next t := by
  cases r with
  | cmd => exact writeCommand_next v s
  | _ => exact ⟨_, rfl⟩

theorem hostWrite_next (addr : Nat) (v : Word) (s : State) : ∃ t, hostWrite addr v s = .next t := by
  unfold hostWrite
  split
  · exact writeWord_next v s _
  · exact ⟨s, rfl⟩

theorem perform_next (e : Input) (s : State) : ∃ t, perform e s = .next t := by
  cases e with
  | write addr v => exact hostWrite_next addr v s
  | _ => exact ⟨_, rfl⟩

/-- Settles O29: a step is the sequencer's turn or performs an input, and every input answers a next state. -/
theorem noStepStops : Obligations.NoStepStops := by
  intro s
  obtain hs | ⟨r, e, rfl⟩ := inputs_cases s
  · exact ⟨_, step_of_inputs_nil hs⟩
  · exact perform_next e r

/-! ### An access at an offset of the window, and outside it (R31, R32) -/

theorem step_readInput (s : State) {off : Nat} (h : off < 4096) :
    step (s.withNext (s.readInput off)) = .next (readOffset off s) := perform_readInput s h

theorem step_writeInput (s : State) {off : Nat} (v : Word) (h : off < 4096) :
    step (s.withNext (s.writeInput off v)) = writeWord v s (windowWord (wordOffset off)) :=
  perform_writeInput s v h

theorem wordOffset_lt {off : Nat} (h : off < 4096) : wordOffset off < 4096 := by
  rw [wordOffset_eq]
  omega

theorem readOffset_wordOffset (off : Nat) (s : State) : readOffset (wordOffset off) s = readOffset off s := by
  simp only [readOffset, wordOffset_idem]

/-- Settles O36: both accesses take the offset through `wordOffset`, which a second time changes nothing. -/
theorem offsetLowBitsIgnored : Obligations.OffsetLowBitsIgnored := by
  intro s off v hoff
  rw [← wordOffset_eq_land hoff, step_readInput s hoff, step_readInput s (wordOffset_lt hoff),
    step_writeInput s v hoff, step_writeInput s v (wordOffset_lt hoff), readOffset_wordOffset, wordOffset_idem]
  exact ⟨rfl, rfl, ⟨_, rfl⟩, writeWord_next v s _⟩

/-- Settles O37: outside the window an access finds no offset. -/
theorem outsideWindowDoesNotReach : Obligations.OutsideWindowDoesNotReach := by
  intro s addr v h
  simp [perform, hostRead, hostWrite, windowOffset_outside s.build h]

end Sys2Proof.Machine
end

section
/-! PROOFS. The words of the window as numbers and as bytes (10_state.md R24, R28, 20_memory.md R33, R36). -/

namespace Sys2Proof.Machine

/-! ### Concatenations as numbers -/

theorem toNat_append_eq_add {m n : Nat} (x : BitVec m) (y : BitVec n) :
    (x ++ y).toNat = 2 ^ n * x.toNat + y.toNat := by
  rw [BitVec.toNat_append, ← Nat.shiftLeft_add_eq_or_of_lt y.isLt, Nat.shiftLeft_eq, Nat.mul_comm]

/-- STATUS as a number (10_state.md R28). -/
theorem statusWord_toNat (s : State) :
    s.statusWord.toNat = s.busy.toNat + 2 * s.phase.bits.toNat + 8 * s.ksv.toNat + 2 ^ 8 * s.errSeed.toNat
      + 2 ^ 9 * s.errState.toNat + 2 ^ 10 * s.errCmd.toNat + 2 ^ 11 * s.errBusy.toNat
      + 2 ^ 12 * s.fnWrap.toNat := by
  simp only [State.statusWord, toNat_append_eq_add, BitVec.toNat_ofBool, BitVec.toNat_ofNat]
  omega

/-- CONFIG as a number (10_state.md R24). -/
theorem configWord_toNat (s : State) :
    s.configWord.toNat = s.build.r3BugCompat.toNat + 2 * s.build.clearOnInit.toNat := by
  simp only [State.configWord, toNat_append_eq_add, BitVec.toNat_ofBool, BitVec.toNat_ofNat]
  omega

/-- A buffer word as a number, little-endian (20_memory.md R33). -/
theorem bufferWord_toNat (b : Buffer) (j : Nat) :
    (bufferWord b j).toNat = (byteOf b (4 * j)).toNat + 2 ^ 8 * (byteOf b (4 * j + 1)).toNat
      + 2 ^ 16 * (byteOf b (4 * j + 2)).toNat + 2 ^ 24 * (byteOf b (4 * j + 3)).toNat := by
  simp only [bufferWord, toNat_append_eq_add]
  omega

/-! ### Buffer words by their byte lanes (R33) -/

theorem byteLane_bufferWord (b : Buffer) (j : Nat) {t : Nat} (ht : t < 4) :
    byteLane (bufferWord b j) t = byteOf b (4 * j + t) := by
  unfold byteLane bufferWord
  interval_cases t
  · exact BitVec.extractLsb'_append_eq_right
  · rw [BitVec.extractLsb'_append_eq_of_le (by decide)]
    exact BitVec.extractLsb'_append_eq_right
  · rw [BitVec.extractLsb'_append_eq_of_le (by decide), BitVec.extractLsb'_append_eq_of_le (by decide)]
    exact BitVec.extractLsb'_append_eq_right
  · rw [BitVec.extractLsb'_append_eq_of_le (by decide), BitVec.extractLsb'_append_eq_of_le (by decide)]
    exact BitVec.extractLsb'_append_eq_left

/-- A word is its four byte lanes. -/
theorem word_ext_byteLane {x y : Word} (h : ∀ t < 4, byteLane x t = byteLane y t) : x = y := by
  refine BitVec.eq_of_getLsbD_eq fun i hi => ?_
  have e := congrArg (·.getLsbD (i % 8)) (h (i / 8) (by omega))
  simpa [byteLane, BitVec.getLsbD_extractLsb', Nat.mod_lt, Nat.div_add_mod] using e

/-- Byte k of a buffer stands in lane k mod 4 of word k / 4. -/
theorem byteLane_bufferWord_div (b : Buffer) {k : Nat} (hk : k < 57) :
    byteLane (bufferWord b (k / 4)) (k % 4) = b[k] := by
  rw [byteLane_bufferWord b _ (Nat.mod_lt k (by decide)), Nat.div_add_mod, byteOf_lt b hk]

/-- Of the last word only the low byte is backed. -/
theorem bufferWord_last (b : Buffer) : bufferWord b 14 = 0#24 ++ byteOf b 56 := by
  unfold bufferWord
  rw [byteOf_ge b (k := 4 * 14 + 3) (by decide), byteOf_ge b (k := 4 * 14 + 2) (by decide),
    byteOf_ge b (k := 4 * 14 + 1) (by decide)]
  rfl

theorem bufferWord_last_unbacked (b : Buffer) : (bufferWord b 14).extractLsb' 8 24 = 0 := by
  rw [bufferWord_last]
  exact BitVec.extractLsb'_append_eq_left

theorem byteLane_land_0xFF (v : Word) {t : Nat} (ht : t < 4) :
    byteLane (v &&& 0xFF) t = if t = 0 then byteLane v t else 0 := by
  have hand : byteLane (v &&& 0xFF) t = byteLane v t &&& byteLane 0xFF t := BitVec.extractLsb'_and
  rw [hand]
  interval_cases t
  · exact BitVec.and_allOnes
  all_goals exact BitVec.and_zero

theorem byteOf_storeWord (b : Buffer) (j : Nat) (v : Word) {t : Nat} (ht : t < 4) :
    byteOf (storeWord b j v) (4 * j + t) = if 4 * j + t < 57 then byteLane v t else 0 := by
  split
  case isTrue hk =>
    rw [byteOf_lt _ hk, storeWord_get b j v hk, if_pos (by omega)]
    congr 1
    omega
  case isFalse hk => exact byteOf_ge _ (Nat.le_of_not_lt hk)

/-- A stored word as it reads back: lanes that name no byte read 0 (R33, R38). -/
theorem bufferWord_storeWord (b : Buffer) {j : Nat} (v : Word) (hj : j < 15) :
    bufferWord (storeWord b j v) j = if j = 14 then v &&& 0xFF else v := by
  refine word_ext_byteLane fun t ht => ?_
  rw [byteLane_bufferWord _ _ ht, byteOf_storeWord b j v ht]
  split_ifs with hk hlast hlast
  · rw [byteLane_land_0xFF v ht, if_pos (by omega)]
  · rfl
  · rw [byteLane_land_0xFF v ht, if_neg (by omega)]
  · omega

theorem storeWord_idem (b : Buffer) (j : Nat) (v : Word) :
    storeWord (storeWord b j v) j v = storeWord b j v := by
  ext k hk
  rw [storeWord_get _ j v hk, storeWord_get b j v hk]
  split <;> rfl

end Sys2Proof.Machine
end

section
/-! PROOFS. What a host read of the window returns, idle and while BUSY = 1 (20_memory.md R33, R36, R37). -/

namespace Sys2Proof.Machine

theorem readOffset_idle {s : State} (off : Nat) (hb : s.busy = false) :
    readOffset off s = { s with rdata := readWord s (windowWord (wordOffset off)) } := by
  simp [readOffset, hb]

theorem readOffset_settled {s : State} {off : Nat}
    (hw : unsettledWhileBusy (windowWord (wordOffset off)) = false) :
    readOffset off s = { s with rdata := readWord s (windowWord (wordOffset off)) } := by
  simp [readOffset, hw]

theorem readOffset_unsettled {s : State} {off : Nat} (hb : s.busy = true)
    (hw : unsettledWhileBusy (windowWord (wordOffset off)) = true) : readOffset off s = drawRead s := by
  simp [readOffset, hb, hw]

theorem step_read_idle {s : State} {off : Nat} (hb : s.busy = false) (hoff : off < 4096) :
    step (s.withNext (s.readInput off)) = .next { s with rdata := readWord s (windowWord (wordOffset off)) } := by
  rw [step_readInput s hoff, readOffset_idle off hb]

/-- Settles O32: an idle read returns the word its offset falls in, and each word is read off as a number. -/
theorem readWhenIdle : Obligations.ReadWhenIdle := by
  intro s off hb hoff
  rw [← wordOffset_eq_land hoff]
  refine ⟨_, step_read_idle hb hoff, ?cmd, ?status, ?keys, ?frameIn, ?fn, ?fbase, ?fidx, ?config, ?ks, ?data,
    ?reserved⟩
  case cmd => exact fun h => by rw [h]; rfl
  case status =>
    intro h
    rw [h]
    exact (statusWord_toNat s).trans (by simp [hb])
  case keys => rintro (h | h) <;> rw [h] <;> rfl
  case frameIn => exact fun h => by rw [h]; rfl
  case fn => exact fun h => by rw [h]; exact BitVec.toNat_setWidth_of_le (by decide)
  case fbase => exact fun h => by rw [h]; exact BitVec.toNat_setWidth_of_le (by decide)
  case fidx => exact fun h => by rw [h]; rfl
  case config => exact fun h => by rw [h]; exact configWord_toNat s
  case ks => exact fun j hj h => by rw [h, windowWord_ks hj]; exact bufferWord_toNat s.ks j
  case data => exact fun j hj h => by rw [h, windowWord_data hj]; exact bufferWord_toNat s.data j
  case reserved => exact fun h => by rw [(wordAt_windowWord off).eq_reserved h]; rfl

/-- The words that read 0 (R36). -/
theorem WordAt.readWord_eq_zero {off : Nat} {r : WindowWord} (hw : WordAt off r) (s : State)
    (hu : unsettledWhileBusy r = false) (hstatus : wordOffset off ≠ 0x004) (hframeIn : wordOffset off ≠ 0x010)
    (hfbase : wordOffset off ≠ 0x018) (hconfig : wordOffset off ≠ 0x020) : readWord s r = 0 := by
  have ha := wordOffset_eq off
  cases hw with
  | cmd | keyLo | keyHi | reserved => rfl
  | fn | fidx | ks | data => cases hu
  | _ => omega

theorem State.Inv.ksv_of_busy {s : State} (h : s.Inv) (hb : s.busy = true) : s.ksv = false := by
  obtain ⟨c, hc⟩ := (busy_eq_true_iff s).mp hb
  exact h.pendingKsv c hc

/-- Settles O33: a busy read draws exactly at the unsettled words, and any other word reads as when idle. -/
theorem readWhileBusy : Obligations.ReadWhileBusy := by
  intro s off hb hoff
  rw [← wordOffset_eq_land hoff, ← (wordAt_windowWord off).unsettledWhileBusy_iff, step_readInput s hoff]
  refine ⟨fun hu => by rw [readOffset_unsettled hb hu]; rfl, fun hu => ?_⟩
  rw [Bool.not_eq_true] at hu
  refine ⟨_, congrArg _ (readOffset_settled hu), ?frameIn, ?fbase, ?config, ?status, ?zero⟩
  case frameIn => exact fun h => by rw [h]; rfl
  case fbase => exact fun h => by rw [h]; exact BitVec.toNat_setWidth_of_le (by decide)
  case config => exact fun h => by rw [h]; exact configWord_toNat s
  case status =>
    intro h hinv
    rw [h]
    exact (statusWord_toNat s).trans (by simp [hb, hinv.ksv_of_busy hb])
  case zero =>
    exact fun hframeIn hfbase hconfig hstatus =>
      (wordAt_windowWord off).readWord_eq_zero s hu hstatus hframeIn hfbase hconfig

/-! ### The buffers as they read (R33) -/

theorem step_read_ks_byte {s : State} (hb : s.busy = false) {k : Nat} (hk : k < 57) :
    step (s.withNext (s.readInput (0x100 + k))) = .next { s with rdata := bufferWord s.ks (k / 4) } := by
  have ha : wordOffset (0x100 + k) = 0x100 + 4 * (k / 4) := by
    rw [wordOffset_eq]
    omega
  rw [step_read_idle hb (by omega), ha, windowWord_ks (by omega)]
  rfl

theorem step_read_data_byte {s : State} (hb : s.busy = false) {k : Nat} (hk : k < 57) :
    step (s.withNext (s.readInput (0x200 + k))) = .next { s with rdata := bufferWord s.data (k / 4) } := by
  have ha : wordOffset (0x200 + k) = 0x200 + 4 * (k / 4) := by
    rw [wordOffset_eq]
    omega
  rw [step_read_idle hb (by omega), ha, windowWord_data (by omega)]
  rfl

/-- Settles O38: an idle read at base + k returns word k / 4 of the buffer, whose lane k mod 4 is byte k. -/
theorem bufferWordsAreLittleEndian : Obligations.BufferWordsAreLittleEndian := by
  refine fun s hb => ⟨fun k hk => ?_, ?_⟩
  · exact ⟨_, _, step_read_ks_byte hb hk, byteLane_bufferWord_div s.ks hk,
      step_read_data_byte hb hk, byteLane_bufferWord_div s.data hk⟩
  · exact ⟨_, _, step_read_ks_byte hb (k := 56) (by decide), bufferWord_last_unbacked s.ks,
      step_read_data_byte hb (k := 56) (by decide), bufferWord_last_unbacked s.data⟩

end Sys2Proof.Machine
end

section
/-! PROOFS. What a host write to the window does, idle and while BUSY = 1 (20_memory.md R33, R38, R39). -/

namespace Sys2Proof.Machine

/-! ### CMD (41_generator_commands.md R65) -/

theorem writeCommand_of_decode {v : Word} {i : Instr} (h : decode v = .ok i) (s : State) :
    writeCommand v s = exec i s := by
  simp [writeCommand, h]

theorem writeCommand_illegal_idle {v : Word} {s : State} (h : ∀ i, decode v ≠ .ok i) (hb : s.busy = false) :
    writeCommand v s = .next (raise .command s) := by
  obtain ⟨i, hd, -⟩ | ⟨-, hb', -⟩ | ⟨-, -, e⟩ := writeCommand_cases v s
  · exact absurd hd (h i)
  · simp [hb] at hb'
  · exact e

theorem exec_busy {i : Instr} {s : State} (hi : i ≠ .sreset) (hb : s.busy = true) :
    exec i s = .next (raise .busy s) := by
  obtain ⟨t, ht⟩ := exec_next i s
  cases exec_effect ht with
  | sreset => exact absurd rfl hi
  | busyError => exact ht
  | _ => simp_all

/-- While BUSY = 1 any word but the one that decodes to SRESET is refused. -/
theorem writeCommand_busy {v : Word} {s : State} (hv : decode v ≠ .ok .sreset) (hb : s.busy = true) :
    writeCommand v s = .next (raise .busy s) := by
  obtain ⟨i, hd, e⟩ | ⟨-, -, e⟩ | ⟨-, hb', -⟩ := writeCommand_cases v s
  · refine e.trans (exec_busy ?_ hb)
    rintro rfl
    exact hv hd
  · exact e
  · simp [hb] at hb'

/-- The SRESET word is the only one that decodes to SRESET (30_encoding.md R48). -/
theorem decode_ne_sreset {v : Word} (hv : v ≠ 0x00000006) : decode v ≠ .ok .sreset :=
  fun h => hv (encode_of_decode h).symm

/-! ### The other words -/

theorem WordAt.writeWord_readOnly {off : Nat} {r : WindowWord} (hw : WordAt off r) (v : Word) (s : State)
    (h : 0x014 ≤ off ∧ off < 0x200 ∨ 0x23C ≤ off) : writeWord v s r = .next s := by
  cases hw with
  | fn | fbase | fidx | config | ks | reserved => rfl
  | _ => omega

theorem WordAt.exists_eq_data {off : Nat} {r : WindowWord} (hw : WordAt off r) (h : 0x200 ≤ off ∧ off < 0x23C) :
    ∃ j, r = .data j := by
  cases hw with
  | data => exact ⟨_, rfl⟩
  | _ => omega

theorem writeData_idle (j : Nat) (v : Word) {s : State} (hb : s.busy = false) :
    writeData j v s = { s with data := storeWord s.data j v } := by
  simp [writeData, hb]

theorem writeData_busy (j : Nat) (v : Word) {s : State} (hb : s.busy = true) :
    writeData j v s = raise .busy s := by
  simp [writeData, hb]

theorem step_writeData {s : State} (v : Word) (hb : s.busy = false) {j : Nat} (hj : j < 15) {off : Nat}
    (hoff : off < 4096) (ha : wordOffset off = 0x200 + 4 * j) :
    step (s.withNext (s.writeInput off v)) = .next { s with data := storeWord s.data j v } := by
  rw [step_writeInput s v hoff, ha, windowWord_data hj]
  exact congrArg _ (writeData_idle j v hb)

/-- `storeWord_get` with the lane counted from the word's first byte (R38). -/
theorem storeWord_get_sub (b : Buffer) (j : Nat) (v : Word) {k : Nat} (hk : k < 57) :
    (storeWord b j v)[k] = if 4 * j ≤ k ∧ k < 4 * j + 4 then v.extractLsb' (8 * (k - 4 * j)) 8 else b[k] := by
  rw [storeWord_get b j v hk]
  split_ifs with hdiv hrange hrange
  · rw [show k - 4 * j = k % 4 by omega]
    rfl
  · omega
  · omega
  · rfl

/-- Settles O34: an idle write acts on the word its offset falls in, and each word's rule is read off. -/
theorem writeWhenIdle : Obligations.WriteWhenIdle := by
  intro s off v hb hoff
  rw [← wordOffset_eq_land hoff]
  refine ⟨fun h => ?cmd, fun h => ?status, fun h => ?keyLo, fun h => ?keyHi, fun h => ?frameIn,
    fun j hj h => ?data, fun h => ?readOnly⟩
  case data => exact ⟨_, step_writeData v hb hj hoff h, fun k hk => storeWord_get_sub s.data j v hk⟩
  all_goals rw [step_writeInput s v hoff]
  case readOnly => exact (wordAt_windowWord off).writeWord_readOnly v s h
  all_goals rw [h]
  case cmd =>
    exact ⟨fun i hd => writeCommand_of_decode hd s,
      fun hd => (writeCommand_illegal_idle hd hb).trans (congrArg _ (raise_command s))⟩
  all_goals rfl

/-- Settles O35: while BUSY = 1 the DATA words and CMD raise BusyError, SRESET's word aside. -/
theorem writeWhileBusy : Obligations.WriteWhileBusy := by
  intro s off v hb hoff
  rw [← wordOffset_eq_land hoff, step_writeInput s v hoff]
  refine ⟨fun h => ?data, fun h => ?status, fun h => ?keyLo, fun h => ?keyHi, fun h => ?frameIn,
    fun h hv => ?cmd, fun h hv => ?sreset, fun h => ?readOnly⟩
  case data =>
    obtain ⟨j, hj⟩ := (wordAt_windowWord off).exists_eq_data h
    rw [hj]
    exact congrArg _ ((writeData_busy j v hb).trans (raise_busyError s))
  case readOnly => exact (wordAt_windowWord off).writeWord_readOnly v s h
  all_goals rw [h]
  case cmd => exact (writeCommand_busy (decode_ne_sreset hv) hb).trans (congrArg _ (raise_busyError s))
  case sreset => exact writeCommand_of_decode (hv ▸ decode_sresetWord) s
  all_goals rfl

/-- BUSY does not read DATA (10_state.md R27). -/
theorem busy_withData (s : State) (d : Buffer) : { s with data := d }.busy = s.busy := rfl

/-- Settles O39: the write stores word j and the read returns it, without the lanes that name no byte. -/
theorem dataWordReadsBack : Obligations.DataWordReadsBack := by
  intro s j v hb hj
  have ha : wordOffset (0x200 + 4 * j) = 0x200 + 4 * j := by
    rw [wordOffset_eq]
    omega
  have hread := step_read_data_byte ((busy_withData s (storeWord s.data j v)).trans hb) (k := 4 * j) (by omega)
  rw [Nat.mul_div_cancel_left j (by decide), bufferWord_storeWord s.data v hj] at hread
  exact ⟨_, step_writeData v hb hj (by omega) ha, hread⟩

end Sys2Proof.Machine
end

section
/-! PROOFS. What accesses leave alone: reads the block's state and a second equal write the first one's
(20_memory.md R40), writes to the staging registers a pending command (R39). -/

namespace Sys2Proof.Machine

/-! ### Side effects (R40) -/

theorem raise_idem (e : ErrorKind) (s : State) : raise e (raise e s) = raise e s := by
  simp [raise]

theorem step_read_effect (s : State) (addr : Nat) :
    ∃ (r : Word) (d : Nat), step (s.withNext (.read addr)) = .next { s with rdata := r, draws := d } := by
  obtain ⟨t, ht⟩ := perform_next (.read addr) s
  cases perform_effect ht with
  | read _ r d => exact ⟨r, d, ht⟩

theorem writeData_idem (j : Nat) (v : Word) (s : State) : writeData j v (writeData j v s) = writeData j v s := by
  cases hb : s.busy with
  | false =>
    have htwice := writeData_idle j v ((busy_withData s (storeWord s.data j v)).trans hb)
    rw [writeData_idle j v hb, htwice, storeWord_idem]
  | true => rw [writeData_busy j v hb, writeData_busy j v ((raise_busy .busy s).trans hb), raise_idem]

/-- Writes to every word but CMD and STATUS are idempotent. -/
theorem WordAt.writeWord_idem {off : Nat} {r : WindowWord} (hw : WordAt off r) (h : 8 ≤ off) (v : Word) (s : State) :
    ∃ t, writeWord v s r = .next t ∧ writeWord v t r = .next t := by
  cases hw with
  | cmd | status => omega
  | data => exact ⟨_, rfl, congrArg _ (writeData_idem _ v s)⟩
  | _ => exact ⟨_, rfl, rfl⟩

/-- Settles O40: a read has the effect of a read alone, and a second write finds its value already there. -/
theorem accessSideEffects : Obligations.AccessSideEffects := by
  refine ⟨step_read_effect, fun s off v h8 hoff => ?_⟩
  obtain ⟨t, hs, ht⟩ := (wordAt_windowWord off).writeWord_idem h8 v s
  exact ⟨t, (step_writeInput s v hoff).trans hs, (step_writeInput t v hoff).trans ht⟩

/-! ### Staging writes and completions (R39) -/

/-- A write of v to the staging register r (10_state.md R25). -/
def stage (v : Word) (s : State) : WindowWord → State
  | .keyLo => { s with keyLo := v }
  | .keyHi => { s with keyHi := v }
  | .frameIn => { s with frameIn := v }
  | _ => s

theorem WordAt.writeWord_eq_stage {off : Nat} {r : WindowWord} (hw : WordAt off r) (h8 : 8 ≤ off) (h : off < 0x14)
    (v : Word) (s : State) : writeWord v s r = .next (stage v s r) := by
  cases hw with
  | keyLo | keyHi | frameIn => rfl
  | _ => omega

theorem stage_pending (v : Word) (s : State) (r : WindowWord) : (stage v s r).pending = s.pending := by
  cases r <;> rfl

theorem completeInit_stage (v : Word) (s : State) (r : WindowWord) :
    completeInit (stage v s r) = stage v (completeInit s) r := by
  cases r <;> rfl

theorem completeGetFrame_stage (v : Word) (s : State) (r : WindowWord) :
    completeGetFrame (stage v s r) = stage v (completeGetFrame s) r := by
  cases r <;> rfl

theorem completeCipherFrame_stage (len : BitVec 6) (v : Word) (s : State) (r : WindowWord) :
    completeCipherFrame len (stage v s r) = stage v (completeCipherFrame len s) r := by
  cases r <;> rfl

/-- No completion reads or writes a staging register. -/
theorem sequencerStep_stage (v : Word) (s : State) (r : WindowWord) :
    sequencerStep (stage v s r) = stage v (sequencerStep s) r := by
  have hp := stage_pending v s r
  obtain ⟨h, e⟩ | ⟨h, e⟩ | ⟨h, e⟩ | ⟨len, h, e⟩ := sequencerStep_cases s <;> rw [e] <;> rw [h] at hp
  · exact sequencerStep_none hp
  · rw [sequencerStep_init hp, completeInit_stage]
  · rw [sequencerStep_getFrame hp, completeGetFrame_stage]
  · rw [sequencerStep_cipherFrame hp, completeCipherFrame_stage]

/-- Settles O48: the write is `stage`, which commutes with every completion. -/
theorem stagingWritesCommuteWithCompletion : Obligations.StagingWritesCommuteWithCompletion := by
  intro s t u off v h8 hoff hwrite hseq
  have hstage : ∀ x : State, step (x.withNext (x.writeInput off v)) =
      .next (stage v x (windowWord (wordOffset off))) := fun x =>
    (step_writeInput x v (by omega)).trans ((wordAt_windowWord off).writeWord_eq_stage h8 hoff v x)
  rw [hstage] at hwrite
  rw [step_sequencer] at hseq
  cases hwrite
  cases hseq
  rw [hstage, step_sequencer, sequencerStep_stage]

end Sys2Proof.Machine
end

section
/-! PROOFS. The decoder as one equivalence, the encoder against it and against the opcode table, and which
words are commands (spec 30_encoding.md R47 to R50, 60_exceptions.md R82). -/

namespace Sys2Proof

/-! ### Decode and encode (R47 to R49) -/

theorem decode_of_isWordOf {v : Word} {i : Instr} (h : IsWordOf v i) : decode v = .ok i := by
  obtain ⟨hr, hop, hlen, hwf⟩ := h
  unfold decode
  rw [if_pos hr, hop]
  cases i
  case cipherFrame len =>
    have hlegal : lenLegal (lenField v) = true := hlen ▸ (Machine.wf_cipherFrame len).symm.trans hwf
    exact (if_pos hlegal).trans (congrArg (Except.ok ∘ Instr.cipherFrame) hlen)
  all_goals exact (withoutLen_eq_ok_iff _ _ _).mpr ⟨hlen, rfl⟩

theorem decode_eq_ok_iff (v : Word) (i : Instr) : decode v = .ok i ↔ IsWordOf v i :=
  ⟨isWordOf_of_decode, decode_of_isWordOf⟩

theorem encodedFields (i : Instr) : Laws.EncodedFields.Statement i := by
  cases i with
  | nop => exact Laws.EncodedFields.nop
  | construct => exact Laws.EncodedFields.construct
  | init => exact Laws.EncodedFields.init
  | getFrame => exact Laws.EncodedFields.getFrame
  | incFrame => exact Laws.EncodedFields.incFrame
  | cipherFrame len => exact Laws.EncodedFields.cipherFrame len
  | sreset => exact Laws.EncodedFields.sreset

theorem decode_encode {i : Instr} (hwf : i.wf = true) : decode (encode i) = .ok i := by
  obtain ⟨hop, hlen, hr⟩ := encodedFields i
  exact decode_of_isWordOf ⟨hr, hop, hlen, hwf⟩

/-- Settles O25: the encoder puts the command's fields where the decoder reads them, and those fields with the
zero reserved bits are the whole word. -/
theorem decodeEncodeRoundTrip : Obligations.DecodeEncodeRoundTrip :=
  ⟨fun _ hwf => decode_encode hwf, fun _ _ h => ⟨wf_of_decode h, encode_of_decode h⟩⟩

/-- Settles O24: each word is what the encoder gives for its well-formed command. -/
theorem writtenOutWordsDecode : Obligations.WrittenOutWordsDecode :=
  ⟨decode_encode (i := .nop) rfl, decode_encode (i := .construct) rfl, decode_encode (i := .init) rfl,
    decode_encode (i := .getFrame) rfl, decode_encode (i := .incFrame) rfl,
    decode_encode (i := .cipherFrame 57) rfl, decode_encode (i := .cipherFrame 1) rfl,
    decode_encode (i := .sreset) rfl⟩

/-! ### The opcode table (R48) -/

/-- The row of CIPHER_FRAME, over the 64 values of LEN: its match with LEN laid over bits 13:8. -/
theorem encode_cipherFrame_eq_or :
    ∀ len : BitVec 6, encode (.cipherFrame len) = 0x00000005 ||| (len.setWidth 32 <<< 8) := by decide

/-- Under its mask the row of CIPHER_FRAME leaves LEN out. -/
theorem encode_cipherFrame_land_mask :
    ∀ len : BitVec 6, encode (.cipherFrame len) &&& 0xFFFFC0FF = 0x00000005 := by decide

/-- Settles O26: a word that decodes is the word of its command, and that word matches the command's row. -/
theorem decodeMatchesOpcodeTable : Obligations.DecodeMatchesOpcodeTable := by
  intro v
  refine ⟨?nop, ?construct, ?init, ?getFrame, ?incFrame, fun len h => ?cipherFrame, ?sreset⟩
  case cipherFrame =>
    rw [← encode_of_decode h]
    exact ⟨encode_cipherFrame_land_mask len, encode_cipherFrame_eq_or len⟩
  all_goals
    intro h
    rw [← encode_of_decode h]
    decide

/-! ### Which words are commands (R49) -/

/-- OP and LEN of the well-formed commands. -/
theorem exists_wf_instr_iff (op : BitVec 4) (len : BitVec 6) :
    (∃ i : Instr, opcode i = op ∧ encodedLen i = len ∧ i.wf = true) ↔
      op.toNat ≤ 6 ∧ if op = 5 then 1 ≤ len.toNat ∧ len.toNat ≤ 57 else len = 0 := by
  have hcipher (l : BitVec 6) : (Instr.cipherFrame l).wf = true ↔ 1 ≤ l.toNat ∧ l.toNat ≤ 57 := by
    rw [Machine.wf_cipherFrame, Machine.lenLegal_eq_true_iff]
  constructor
  · rintro ⟨i, rfl, rfl, hwf⟩
    cases i
    case cipherFrame l => exact ⟨Nat.le_succ 5, (hcipher l).mp hwf⟩
    all_goals decide
  · rintro ⟨hop, hlen⟩
    split at hlen
    case isTrue h5 => exact ⟨.cipherFrame len, h5.symm, rfl, (hcipher len).mpr hlen⟩
    case isFalse h5 =>
      have hcases : op = 0 ∨ op = 1 ∨ op = 2 ∨ op = 3 ∨ op = 4 ∨ op = 6 := by
        revert op
        decide
      subst hlen
      obtain rfl | rfl | rfl | rfl | rfl | rfl := hcases
      · exact ⟨.nop, rfl, rfl, rfl⟩
      · exact ⟨.construct, rfl, rfl, rfl⟩
      · exact ⟨.init, rfl, rfl, rfl⟩
      · exact ⟨.getFrame, rfl, rfl, rfl⟩
      · exact ⟨.incFrame, rfl, rfl, rfl⟩
      · exact ⟨.sreset, rfl, rfl, rfl⟩

theorem reservedZero_eq_true_iff (v : Word) :
    reservedZero v = true ↔ v.extractLsb' 14 18 = 0 ∧ v.extractLsb' 4 4 = 0 := by
  simp [reservedZero, and_comm]

/-- The words that are commands, by the fields of the word (R49). -/
theorem exists_decode_eq_ok_iff (v : Word) :
    (∃ i, decode v = .ok i) ↔
      v.extractLsb' 14 18 = 0 ∧ v.extractLsb' 4 4 = 0 ∧ (opField v).toNat ≤ 6 ∧
        if opField v = 5 then 1 ≤ (lenField v).toNat ∧ (lenField v).toNat ≤ 57 else lenField v = 0 := by
  rw [← exists_wf_instr_iff, ← and_assoc, ← reservedZero_eq_true_iff, ← exists_and_left]
  refine exists_congr fun i => (decode_eq_ok_iff v i).trans ?_
  simp only [IsWordOf, eq_comm]

end Sys2Proof

namespace Sys2Proof.Machine

/-! ### A CMD write of any other word (60_exceptions.md R82) -/

theorem step_writeCommand (s : State) (v : Word) :
    step (s.withNext (s.writeInput 0 v)) = writeCommand v s := step_writeInput s v (by decide)

/-- Settles O28: the legal words are those that decode, and a CMD write of another word is refused. -/
theorem legalWordsRule : Obligations.LegalWordsRule := by
  intro v
  refine ⟨exists_decode_eq_ok_iff v, fun hillegal s => ?_⟩
  have hd : ∀ i, decode v ≠ .ok i := fun i h => hillegal ((exists_decode_eq_ok_iff v).mp ⟨i, h⟩)
  rw [step_writeCommand]
  exact ⟨fun hb => (writeCommand_illegal_idle hd hb).trans (congrArg _ (raise_command s)),
    fun hb => (writeCommand_busy (hd _) hb).trans (congrArg _ (raise_busyError s))⟩

end Sys2Proof.Machine
end

section
/-! PROOFS. The three shift registers: the shift by its bits and as a number, the feedback by its tap positions
(spec 10_state.md R17, R18, 40_lfsr_core.md R51, R52). -/

namespace Sys2Proof.Machine

/-! ### A shift -/

section
variable {w : Nat} (v : BitVec w) (x : Bool)

theorem shiftIn_getLsbD_of_pos (hw : 0 < w) (i : Nat) :
    (shiftIn v x).getLsbD i = if i = 0 then x else decide (i < w) && v.getLsbD (i - 1) := by
  rw [shiftIn_getLsbD]
  by_cases hi : i = 0
  · simp [hi, hw]
  · simp [hi]

theorem shiftIn_toNat : (shiftIn v x).toNat = (2 * v.toNat + x.toNat) % 2 ^ w := by
  have hor : v.toNat <<< 1 ||| x.toNat = 2 * v.toNat + x.toNat := by
    rw [← Nat.shiftLeft_add_eq_or_of_lt (by simpa using x.toNat_lt), Nat.shiftLeft_eq]
    omega
  rw [← hor, Nat.or_mod_two_pow]
  simp [shiftIn]

end

/-- Settles O2: the two forms of one shifted register, and a shift names one register only. -/
theorem shiftMovesBitsUp : Obligations.ShiftMovesBitsUp := fun b x =>
  ⟨⟨shiftIn_getLsbD_of_pos b.r1 x (by decide), shiftIn_toNat b.r1 x, rfl, rfl⟩,
    ⟨shiftIn_getLsbD_of_pos b.r2 x (by decide), shiftIn_toNat b.r2 x, rfl, rfl⟩,
    ⟨shiftIn_getLsbD_of_pos b.r3 x (by decide), shiftIn_toNat b.r3 x, rfl, rfl⟩⟩

/-! ### Feedback -/

/-- The XOR of the bits of v at the places of a list. -/
def xorAt {w : Nat} (v : BitVec w) (places : List Nat) : Bool :=
  places.foldl (fun a i => a ^^ v.getLsbD i) false

theorem parityBelow_and {w : Nat} (v tap : BitVec w) (n : Nat) :
    parityBelow (v &&& tap) n = xorAt v ((List.range n).filter tap.getLsbD) := by
  induction n with
  | zero => rfl
  | succ n ih =>
    rw [parityBelow, ih, List.range_succ, List.filter_append]
    cases htap : tap.getLsbD n <;> simp [xorAt, htap]

/-- The parity of the tapped bits is their XOR, lowest place first. -/
theorem parity_and {w : Nat} (v tap : BitVec w) :
    parity (v &&& tap) = xorAt v ((List.range w).filter tap.getLsbD) :=
  parityBelow_and v tap w

/-! The tap positions of R18. -/

theorem tap1_positions : (List.range 19).filter tap1.getLsbD = [13, 16, 17, 18] := by decide
theorem tap2_positions : (List.range 22).filter tap2.getLsbD = [20, 21] := by decide
theorem tap3_positions : (List.range 23).filter tap3.getLsbD = [7, 20, 21, 22] := by decide

/-- Settles O1: each parity is over the places of its tap mask, here in the spec's order, highest first. -/
theorem feedbackIsXorOfTaps : Obligations.FeedbackIsXorOfTaps := by
  intro b
  refine ⟨?_, ?_, ?_⟩
  · rw [Bank.feedback, parity_and, tap1_positions]
    simp [xorAt, Bool.xor_comm]
  · rw [Bank.feedback, parity_and, tap2_positions]
    simp [xorAt, Bool.xor_comm]
  · rw [Bank.feedback, parity_and, tap3_positions]
    simp [xorAt, Bool.xor_comm]

end Sys2Proof.Machine
end

section
/-! PROOFS. The majority and what a majority cycle clocks, in both builds (spec 40_lfsr_core.md R57 to R59). -/

namespace Sys2Proof.Machine

/-- Settles O5: the eight inputs, one by one. -/
theorem majorityTruthTable : Obligations.MajorityTruthTable := by
  refine ⟨?_, ?_, ?_, ?_, ?_, ?_, ?_, ?_⟩ <;> rfl

/-! A clocking bit has the majority exactly when one of the other two agrees with it. -/

theorem first_beq_majority : ∀ c1 c2 c3 : Bool, (c1 == majority c1 c2 c3) = decide (c1 = c2 ∨ c1 = c3) := by decide
theorem second_beq_majority : ∀ c1 c2 c3 : Bool, (c2 == majority c1 c2 c3) = decide (c2 = c1 ∨ c2 = c3) := by decide
theorem third_beq_majority : ∀ c1 c2 c3 : Bool, (c3 == majority c1 c2 c3) = decide (c3 = c1 ∨ c3 = c2) := by decide

/-- Of three bits, two of the three agree with another one. -/
theorem two_of_three_agree : ∀ c1 c2 c3 : Bool,
    (c1 = c2 ∨ c1 = c3) ∧ (c2 = c1 ∨ c2 = c3) ∨ (c1 = c2 ∨ c1 = c3) ∧ (c3 = c1 ∨ c3 = c2) ∨
      (c2 = c1 ∨ c2 = c3) ∧ (c3 = c1 ∨ c3 = c2) := by decide

/-! One branch of a cycle, register by register: it touches no other register. -/

theorem clockIf_r1 (go : Bool) (b : Bank) :
    clockIf go .r1 b = ⟨if go then shiftIn b.r1 (b.feedback .r1) else b.r1, b.r2, b.r3⟩ := by cases go <;> rfl

theorem clockIf_r2 (go : Bool) (b : Bank) :
    clockIf go .r2 b = ⟨b.r1, if go then shiftIn b.r2 (b.feedback .r2) else b.r2, b.r3⟩ := by cases go <;> rfl

theorem clockIf_r3 (go : Bool) (b : Bank) :
    clockIf go .r3 b = ⟨b.r1, b.r2, if go then shiftIn b.r3 (b.feedback .r3) else b.r3⟩ := by cases go <;> rfl

/-- Two branches for one register: the second takes the feedback the first has left (R59). -/
theorem clockIf_clockIf_same (p q : Bool) (n : Reg) (b : Bank) :
    clockIf q n (clockIf p n b) =
      if p ∧ q then (b.shift n (b.feedback n)).shift n ((b.shift n (b.feedback n)).feedback n)
      else if p ∨ q then b.shift n (b.feedback n) else b := by
  cases p <;> cases q <;> rfl

theorem clockIf_r1_r2_comm (p q : Bool) (b : Bank) :
    clockIf q .r1 (clockIf p .r2 b) = clockIf p .r2 (clockIf q .r1 b) := by
  cases p <;> cases q <;> rfl

/-- The three branches, each with its condition in terms of the other two clocking bits. -/
theorem majorityCycle_eq (bug : Bool) (b : Bank) :
    majorityCycle bug b =
      let c1 := b.r1.getLsbD 8
      let c2 := b.r2.getLsbD 10
      let c3 := b.r3.getLsbD 10
      clockIf (decide (c3 = c1 ∨ c3 = c2)) (thirdBranch bug)
        (clockIf (decide (c2 = c1 ∨ c2 = c3)) .r2 (clockIf (decide (c1 = c2 ∨ c1 = c3)) .r1 b)) := by
  simp only [majorityCycle, Bank.clockingBit, first_beq_majority, second_beq_majority, third_beq_majority]

/-- Settles O6: the branches act on three different registers, so each register is as its own branch leaves it. -/
theorem majorityCycleClocksTheAgreeing : Obligations.MajorityCycleClocksTheAgreeing := by
  intro b c1 c2 c3
  rw [majorityCycle_eq, thirdBranch_false, clockIf_r3, clockIf_r2, clockIf_r1]
  simp only [decide_eq_true_eq]
  exact ⟨rfl, rfl, rfl, two_of_three_agree c1 c2 c3⟩

/-- Settles O7: the register-3 branch is a second branch for R1, and R2's branch between the two does not touch R1. -/
theorem bugCompatibleCycle : Obligations.BugCompatibleCycle := by
  intro b c1 c2 c3 b1
  rw [majorityCycle_eq, thirdBranch_true]
  refine ⟨?_, ?_, ?_⟩
  · simp only [clockIf_r1, clockIf_r2]
  · simp only [clockIf_r1, clockIf_r2, decide_eq_true_eq]
    rfl
  · rw [clockIf_r1_r2_comm, clockIf_r2, clockIf_clockIf_same]
    simp only [decide_eq_true_eq]
    split_ifs <;> rfl

end Sys2Proof.Machine
end

section
/-! PROOFS. The mixing cycles and seeding: what a cycle leaves in each register, the order of the bits, that
mixing loses nothing, and the zero registers (spec 40_lfsr_core.md R54 to R56, R60, R61). -/

namespace Sys2Proof.Machine

/-- A mixing cycle, all three registers at once (R54). -/
theorem mixingCycle_eq (x : Bool) (b : Bank) :
    mixingCycle x b =
      ⟨shiftIn b.r1 (x ^^ b.feedback .r1), shiftIn b.r2 (x ^^ b.feedback .r2),
        shiftIn b.r3 (x ^^ b.feedback .r3)⟩ := rfl

theorem mixingCycle_false_zero : mixingCycle false ⟨0, 0, 0⟩ = ⟨0, 0, 0⟩ := by decide

/-- Settles O3: no register's feedback reads another register, so each branch sees its own as it was. -/
theorem mixingCycleShiftsAll : Obligations.MixingCycleShiftsAll := by
  refine ⟨fun b x => ?_, mixingCycle_false_zero⟩
  rw [mixingCycle_eq]
  exact ⟨rfl, rfl, rfl⟩

/-- The mixing cycles take the bits of v from bit 0 up. -/
theorem mixBits_eq_foldl {w : Nat} (v : BitVec w) (n : Nat) (b : Bank) :
    mixBits v n b = (List.range n).foldl (fun c i => mixingCycle (v.getLsbD i) c) b := by
  induction n with
  | zero => rfl
  | succ n ih => rw [mixBits, ih, List.range_succ, List.foldl_append, List.foldl_cons, List.foldl_nil]

/-- Settles O4: both loops are one recursion, over 64 and over 22 bits. -/
theorem mixingTakesLowBitsFirst : Obligations.MixingTakesLowBitsFirst :=
  ⟨fun key => mixBits_eq_foldl key 64, fun fn => mixBits_eq_foldl fn 22⟩

/-! ### Mixing is invertible (R60) -/

theorem parityBelow_congr {w : Nat} {u v : BitVec w} {n : Nat} (h : ∀ i < n, u.getLsbD i = v.getLsbD i) :
    parityBelow u n = parityBelow v n := by
  induction n with
  | zero => rfl
  | succ n ih => rw [parityBelow, parityBelow, ih fun i hi => h i (by omega), h n (by omega)]

/-- A register whose top bit is tapped can be read back from its shifted value: the shift keeps the bits below
the top, and the top bit is what the inserted bit holds beyond their parity. -/
theorem shiftIn_feedback_injective {w : Nat} {tap u v : BitVec (w + 1)} {x : Bool} (htap : tap.getLsbD w = true)
    (h : shiftIn u (x ^^ parity (u &&& tap)) = shiftIn v (x ^^ parity (v &&& tap))) : u = v := by
  have hbit (i : Nat) := congrArg (BitVec.getLsbD · i) h
  simp only [shiftIn_getLsbD_of_pos _ _ w.succ_pos] at hbit
  have hlow : ∀ i < w, u.getLsbD i = v.getLsbD i := fun i hi => by simpa [hi] using hbit (i + 1)
  have hparity : parity (u &&& tap) = parity (v &&& tap) := by simpa using hbit 0
  have hbelow : parityBelow (u &&& tap) w = parityBelow (v &&& tap) w :=
    parityBelow_congr fun i hi => by simp [hlow i hi]
  have htop : u.getLsbD w = v.getLsbD w := by
    simpa only [parity, parityBelow, hbelow, BitVec.getLsbD_and, htap, Bool.and_true, Bool.xor_right_inj]
      using hparity
  refine BitVec.eq_of_getLsbD_eq fun i hi => ?_
  obtain hi | rfl : i < w ∨ i = w := by omega
  · exact hlow i hi
  · exact htop

/-- Every tap mask of R18 holds its register's top bit. -/
theorem mixingCycle_injective (x : Bool) : Function.Injective (mixingCycle x) := by
  rintro ⟨u1, u2, u3⟩ ⟨v1, v2, v3⟩ h
  rw [mixingCycle_eq, mixingCycle_eq, Bank.mk.injEq] at h
  obtain ⟨h1, h2, h3⟩ := h
  obtain rfl : u1 = v1 := shiftIn_feedback_injective (w := 18) (tap := tap1) (by decide) h1
  obtain rfl : u2 = v2 := shiftIn_feedback_injective (w := 21) (tap := tap2) (by decide) h2
  obtain rfl : u3 = v3 := shiftIn_feedback_injective (w := 22) (tap := tap3) (by decide) h3
  rfl

theorem mixBits_injective {w : Nat} (v : BitVec w) (n : Nat) : Function.Injective (mixBits v n) := by
  induction n with
  | zero => exact Function.injective_id
  | succ n ih => exact (mixingCycle_injective _).comp ih

/-! ### Seeding (R60, R61) -/

theorem mixBits_zero {w : Nat} (n : Nat) : mixBits (0 : BitVec w) n ⟨0, 0, 0⟩ = ⟨0, 0, 0⟩ := by
  induction n with
  | zero => rfl
  | succ n ih => rw [mixBits, ih, BitVec.ofNat_eq_ofNat, BitVec.getLsbD_zero, mixingCycle_false_zero]

theorem majorityCycle_zero (bug : Bool) : majorityCycle bug ⟨0, 0, 0⟩ = ⟨0, 0, 0⟩ := by
  cases bug <;> decide

theorem seed_eq_iterate (build : Build) (key : BitVec 64) (fn : BitVec 22) (b : Bank) :
    seed build key fn b =
      (majorityCycle build.r3BugCompat)^[100]
        (mixFrameNumber fn (mixKey key (if build.clearOnInit then ⟨0, 0, 0⟩ else b))) :=
  majorityCycles_eq_iterate build.r3BugCompat 100 _

theorem seed_zero (build : Build) : seed build 0 0 ⟨0, 0, 0⟩ = ⟨0, 0, 0⟩ := by
  rw [seed_eq_iterate, ite_self, mixKey, mixBits_zero, mixFrameNumber, mixBits_zero]
  exact Function.iterate_fixed (majorityCycle_zero _) 100

/-- Settles O8: the procedure as it stands, with each stage of the mixing injective and the zero registers a
fixed point of every stage. -/
theorem seedingProcedure : Obligations.SeedingProcedure :=
  ⟨seed_eq_iterate, fun x _ _ h => mixingCycle_injective x h,
    fun key fn _ _ h => mixBits_injective key 64 (mixBits_injective fn 22 h), seed_zero⟩

end Sys2Proof.Machine
end

section
/-! PROOFS. The keystream bit by bit (spec 40_lfsr_core.md R62 to R64). -/

namespace Sys2Proof.Machine

/-- The bit a majority cycle gives after it has run (R62). -/
theorem outputBit_fst (bug : Bool) (n : Nat) (b : Bank) :
    (outputBit bug (majorityCycles bug n b)).1 = (majorityCycles bug (n + 1) b).outputXor := rfl

/-- Of n output bits, bit t to be produced stands at place n - 1 - t: the first is the most significant (R63). -/
theorem outputBits_getLsbD (bug : Bool) (b : Bank) {n t : Nat} (hn : n ≤ 8) (ht : t < n) :
    (outputBits bug n b).1.getLsbD (n - 1 - t) = (majorityCycles bug (t + 1) b).outputXor := by
  induction n with
  | zero => omega
  | succ n ih =>
    rw [outputBits, shiftIn_getLsbD_of_pos _ _ (by decide), outputBits_bank, outputBit_fst, Nat.add_sub_cancel]
    obtain rfl | hlt : t = n ∨ t < n := by omega
    · simp
    · have hplace : n - t ≠ 0 ∧ n - t < 8 ∧ n - t - 1 = n - 1 - t := by omega
      simpa [hplace] using ih (by omega) hlt

/-- Byte k of the keystream is the output byte after 8 k majority cycles: no cycle falls between two bytes (R64). -/
theorem outputBytes_getElem (bug : Bool) (b : Bank) {n k : Nat} (hk : k < n) :
    (outputBytes bug n b).1[k] = (outputByte bug (majorityCycles bug (8 * k) b)).1 := by
  induction n with
  | zero => omega
  | succ n ih =>
    simp only [outputBytes, Vector.getElem_push, outputBytes_bank]
    obtain rfl | hlt : k = n ∨ k < n := by omega
    · simp
    · simpa [hlt] using ih hlt

/-- Settles O9: byte k starts after 8 k cycles, and its bit t comes t + 1 cycles later. -/
theorem keystreamFrameBits : Obligations.KeystreamFrameBits := by
  intro bug b
  refine ⟨fun k hk t ht => ?_, ?_⟩
  · calc ((keystreamFrame bug b).1[k]).getLsbD (7 - t)
      _ = (outputBits bug 8 (majorityCycles bug (8 * k) b)).1.getLsbD (8 - 1 - t) :=
          congrArg (BitVec.getLsbD · (7 - t)) (outputBytes_getElem bug b hk)
      _ = (majorityCycles bug (t + 1) (majorityCycles bug (8 * k) b)).outputXor :=
          outputBits_getLsbD bug _ le_rfl ht
      _ = ((majorityCycle bug)^[8 * k + t + 1] b).outputXor := by
          rw [← majorityCycles_add, majorityCycles_eq_iterate, Nat.add_comm, ← Nat.add_assoc]
  · exact (outputBytes_bank bug 57 b).trans (majorityCycles_eq_iterate bug 456 b)

end Sys2Proof.Machine
end

section
/-! PROOFS. The commands at their CMD write, each with its whole next state or its frame: NOP, CONSTRUCT, INC_FRAME,
SRESET, and the three sequenced commands as they go pending (spec 41_generator_commands.md R65 to R71,
42_frame_cipher.md R75). -/

namespace Sys2Proof.Machine

/-! ### The commands that do not go pending: refused or run (R65) -/

theorem exec_busyError {i : Instr} {s : State} (hi : i ≠ .sreset) (hb : s.busy = true) :
    exec i s = .next { s with errBusy := true } :=
  (exec_busy hi hb).trans (congrArg _ (raise_busyError s))

theorem dispatch_stateError {f : State → State} {s : State} (hb : s.busy = false) :
    dispatch true false f s = .next { s with errState := true } :=
  (dispatch_notAdmitted hb).trans (congrArg _ (raise_state s))

theorem hasContext_eq_false_iff (s : State) : s.hasContext = false ↔ s.phase = .none := by
  simp [State.hasContext]

theorem exec_nop_idle {s : State} (hb : s.busy = false) : exec .nop s = .next s :=
  (exec_nop s).trans (dispatch_runs hb)

theorem exec_construct_idle {s : State} (hb : s.busy = false) : exec .construct s = .next (construct s) :=
  dispatch_runs hb

theorem exec_incFrame_admitted {s : State} (hb : s.busy = false) (hp : s.phase ≠ .none) :
    exec .incFrame s = .next (incFrame s) := by
  rw [exec_incFrame, (hasContext_eq_true_iff s).mpr hp]
  exact dispatch_runs hb

theorem exec_incFrame_stateError {s : State} (hb : s.busy = false) (hp : s.phase = .none) :
    exec .incFrame s = .next { s with errState := true } := by
  rw [exec_incFrame, (hasContext_eq_false_iff s).mpr hp]
  exact dispatch_stateError hb

/-! ### The sequenced commands (R65) -/

/-- The three sequenced commands are one dispatch, by what PENDING would hold. -/
theorem exec_sequenced (c : Pending) (s : State) :
    exec c.instr s = dispatch (pendingLenLegal c) (admittedIn c s.phase) (accept c) s := by
  cases c <;> rfl

theorem exists_pending_instr_iff (i : Instr) :
    (∃ c : Pending, i = c.instr) ↔ i = .init ∨ i = .getFrame ∨ ∃ len, i = .cipherFrame len := by
  constructor
  · rintro ⟨c, rfl⟩
    cases c with
    | init => exact .inl rfl
    | getFrame => exact .inr (.inl rfl)
    | cipherFrame len => exact .inr (.inr ⟨len, rfl⟩)
  · rintro (rfl | rfl | ⟨len, rfl⟩)
    · exact ⟨.init, rfl⟩
    · exact ⟨.getFrame, rfl⟩
    · exact ⟨.cipherFrame len, rfl⟩

section
variable {s : State}

theorem exec_sequenced_admitted {c : Pending} (hb : s.busy = false) (hlen : pendingLenLegal c = true)
    (hadm : admittedIn c s.phase = true) : exec c.instr s = .next { s with pending := some c, ksv := false } := by
  rw [exec_sequenced, hlen, hadm]
  exact dispatch_runs hb

theorem exec_sequenced_stateError {c : Pending} (hb : s.busy = false) (hlen : pendingLenLegal c = true)
    (hadm : admittedIn c s.phase = false) : exec c.instr s = .next { s with errState := true } := by
  rw [exec_sequenced, hlen, hadm]
  exact dispatch_stateError hb

theorem exec_init_admitted (hb : s.busy = false) (hp : s.phase ≠ .none) :
    exec .init s = .next { s with pending := some .init, ksv := false } :=
  exec_sequenced_admitted (c := .init) hb rfl (decide_eq_true hp)

theorem exec_init_stateError (hb : s.busy = false) (hp : s.phase = .none) :
    exec .init s = .next { s with errState := true } :=
  exec_sequenced_stateError (c := .init) hb rfl (decide_eq_false (not_not_intro hp))

theorem exec_getFrame_admitted (hb : s.busy = false) (hp : s.phase = .seeded ∨ s.phase = .extracting) :
    exec .getFrame s = .next { s with pending := some .getFrame, ksv := false } :=
  exec_sequenced_admitted (c := .getFrame) hb rfl ((isSeeded_eq_true_iff s).mpr hp)

theorem exec_getFrame_stateError (hb : s.busy = false) (hp : s.phase = .none ∨ s.phase = .constructed) :
    exec .getFrame s = .next { s with errState := true } :=
  exec_sequenced_stateError (c := .getFrame) hb rfl (by obtain hp | hp := hp <;> rw [hp] <;> rfl)

theorem exec_cipherFrame_admitted {len : BitVec 6} (hb : s.busy = false) (hlen : 1 ≤ len.toNat ∧ len.toNat ≤ 57)
    (hp : s.phase ≠ .none) :
    exec (.cipherFrame len) s = .next { s with pending := some (.cipherFrame len), ksv := false } :=
  exec_sequenced_admitted (c := .cipherFrame len) hb ((lenLegal_eq_true_iff len).mpr hlen) (decide_eq_true hp)

theorem exec_cipherFrame_stateError {len : BitVec 6} (hb : s.busy = false)
    (hlen : 1 ≤ len.toNat ∧ len.toNat ≤ 57) (hp : s.phase = .none) :
    exec (.cipherFrame len) s = .next { s with errState := true } :=
  exec_sequenced_stateError (c := .cipherFrame len) hb ((lenLegal_eq_true_iff len).mpr hlen)
    (decide_eq_false (not_not_intro hp))

end

/-! ### NOP, CONSTRUCT and INC_FRAME (R66, R67, R70) -/

/-- Settles O10: NOP is dispatched with no check that it can fail but BUSY. -/
theorem nopRule : Obligations.NopRule :=
  fun _ => ⟨exec_nop_idle, exec_busyError (by decide)⟩

theorem construct_inRange {s : State} (h : s.frameIn.toNat < 2 ^ 22) :
    construct s = { s with
      ksv := false
      key := s.keyHi ++ s.keyLo
      fn := s.frameIn.extractLsb' 0 22
      fbase := s.frameIn.extractLsb' 0 22
      fidx := 0
      phase := .constructed } := by
  have hr : s.frameInRange = true := (frameInRange_eq_true_iff s).mpr h
  have hfn : s.frameIn.setWidth 22 = s.frameIn.extractLsb' 0 22 := BitVec.setWidth_eq_extractLsb' (by decide)
  rw [construct, if_pos hr, hfn]
  rfl

theorem construct_outOfRange {s : State} (h : 2 ^ 22 ≤ s.frameIn.toNat) :
    construct s = { s with ksv := false, phase := .none, errSeed := true } := by
  have hr : s.frameInRange = false := (frameInRange_eq_false_iff s).mpr h
  rw [construct, hr]
  exact raise_seed _

/-- Settles O11: an idle CONSTRUCT is its body, whose two ends are told apart by the 22-bit bound. -/
theorem constructRule : Obligations.ConstructRule := fun s =>
  ⟨fun hb h => (exec_construct_idle hb).trans (congrArg _ (construct_inRange h)),
    fun hb h => (exec_construct_idle hb).trans (congrArg _ (construct_outOfRange h)), exec_busyError (by decide)⟩

/-- INC_FRAME below the last frame number (R70). -/
theorem incFrame_of_ne_last {s : State} (h : s.fn ≠ 0x3FFFFF) :
    incFrame s = { s with fn := BitVec.ofNat 22 (s.fn.toNat + 1) } := by
  have hfn : s.fn + 1 = BitVec.ofNat 22 (s.fn.toNat + 1) := by
    simp [BitVec.ofNat_add]
  have hlast : (s.fn == 0x3FFFFF) = false := beq_false_of_ne h
  rw [incFrame, hfn, hlast, Bool.or_false]

/-- INC_FRAME at the last frame number (R70). -/
theorem incFrame_of_eq_last {s : State} (h : s.fn = 0x3FFFFF) :
    incFrame s = { s with fn := 0, fnWrap := true } := by
  rw [incFrame, h, beq_self_eq_true, Bool.or_true]
  rfl

theorem toNat_ofNat_succ_of_ne_last {fn : BitVec 22} (h : fn ≠ 0x3FFFFF) :
    (BitVec.ofNat 22 (fn.toNat + 1)).toNat = fn.toNat + 1 := by
  bv_omega

/-- Settles O14: an admitted INC_FRAME is its body, below and at the last frame number. -/
theorem incFrameRule : Obligations.IncFrameRule := fun s =>
  ⟨fun hb hp h => ⟨(exec_incFrame_admitted hb hp).trans (congrArg _ (incFrame_of_ne_last h)),
      toNat_ofNat_succ_of_ne_last h⟩,
    fun hb hp h => (exec_incFrame_admitted hb hp).trans (congrArg _ (incFrame_of_eq_last h)),
    exec_incFrame_stateError, exec_busyError (by decide)⟩

/-! ### SRESET (R71, R96) -/

theorem resetBlock_statusWord (s : State) : (resetBlock s).statusWord = 0 := by
  simp [State.statusWord, Phase.bits]

/-- A word with OP = 6 is a command only if it is the SRESET word itself (30_encoding.md R49). -/
theorem decode_ne_ok_of_sreset_op {v : Word} (hop : v.extractLsb' 0 4 = 6) (hv : v ≠ 6) (i : Instr) :
    decode v ≠ .ok i := by
  intro h
  obtain ⟨-, hopcode, -, -⟩ := isWordOf_of_decode h
  have hi : opcode i = 6 := hopcode.symm.trans hop
  cases i with
  | sreset => exact hv (encode_of_decode h).symm
  | _ => simp [opcode] at hi

/-- Settles O16: SRESET is `resetBlock`, and another word with its OP does not decode. -/
theorem sresetRule : Obligations.SresetRule := by
  refine fun s => ⟨rfl, ?_, fun v hop hv => ?_⟩
  · rintro t ⟨⟩
    exact ⟨rfl, resetBlock_statusWord s, rfl⟩
  · have hd := decode_ne_ok_of_sreset_op hop hv
    rw [step_writeCommand]
    split
    case isTrue hb => exact (writeCommand_busy (hd _) hb).trans (congrArg _ (raise_busyError s))
    case isFalse hb =>
      exact (writeCommand_illegal_idle hd (Bool.not_eq_true _ ▸ hb)).trans (congrArg _ (raise_command s))

/-! ### A CMD write is its command (20_memory.md R32, R44) -/

theorem windowWord_of_lt_four {off : Nat} (h : off < 4) : windowWord (wordOffset off) = .cmd := by
  rw [windowWord_eq_cmd_iff, wordOffset_eq]
  omega

theorem step_write_decoded {s : State} {v : Word} {i : Instr} {off : Nat} (hd : decode v = .ok i) (hoff : off < 4) :
    step (s.withNext (s.writeInput off v)) = exec i s := by
  rw [step_writeInput s v (by omega), windowWord_of_lt_four hoff]
  exact writeCommand_of_decode hd s

/-- The command word placed next is a host write at offset 0 (log 2). -/
theorem withFetchWord_eq_withNext (s : State) {w : Nat} (hw : w < 2 ^ 32) :
    s.withFetchWord 32 w = s.withNext (s.writeInput 0 (BitVec.ofNat 32 w)) := by
  rw [State.withFetchWord, commandWord, Nat.mod_eq_of_lt hw]
  rfl

/-- Settles O27: the four offsets all fall in CMD, and a placed command word is a write at the first. -/
theorem stepRunsDecodedCommand : Obligations.StepRunsDecodedCommand := by
  refine fun s i => ⟨fun w hd hw => ?_, fun v off hd hoff => step_write_decoded hd hoff⟩
  rw [withFetchWord_eq_withNext s hw]
  exact step_write_decoded hd (by decide)

/-! ### Frames of the CMD writes -/

/-- The buffer bytes at an offset agree when those of KS and DATA it names do. -/
theorem bufferByte_congr {s t : State} {off : Nat}
    (hks : 0x100 ≤ off ∧ off < 0x139 → byteOf t.ks (off - 0x100) = byteOf s.ks (off - 0x100))
    (hdata : 0x200 ≤ off ∧ off < 0x239 → byteOf t.data (off - 0x200) = byteOf s.data (off - 0x200)) :
    t.bufferByte off = s.bufferByte off := by
  unfold State.bufferByte
  split_ifs with h1 h2
  · exact hks h1
  · exact hdata h2
  · rfl

theorem bufferByte_of_same_buffers {s t : State} (hks : t.ks = s.ks) (hdata : t.data = s.data) (off : Nat) :
    t.bufferByte off = s.bufferByte off :=
  bufferByte_congr (fun _ => by rw [hks]) (fun _ => by rw [hdata])

@[simp] theorem construct_data (s : State) : (construct s).data = s.data := by
  obtain ⟨-, h⟩ | ⟨-, h⟩ := construct_cases s <;> simp [h]

/-- No command but SRESET writes a buffer at its CMD write. -/
theorem exec_bufferByte {i : Instr} {s t : State} (h : exec i s = .next t) (hi : i ≠ .sreset) (off : Nat) :
    t.bufferByte off = s.bufferByte off := by
  cases exec_effect h with
  | sreset => exact absurd rfl hi
  | _ => exact bufferByte_of_same_buffers (by simp) (by simp) off

/-- Settles O20: the ends of the two commands one by one. -/
theorem frameOfNopAndIncFrame : Obligations.FrameOfNopAndIncFrame := by
  refine ⟨fun s t h => ⟨?_, exec_bufferByte h (by decide)⟩, fun s t h => ⟨?_, exec_bufferByte h (by decide)⟩⟩
  · rw [exec_nop] at h
    obtain ⟨-, rfl⟩ | ⟨-, ⟨⟩, -⟩ | ⟨-, -, ⟨⟩, -⟩ | ⟨-, -, -, rfl⟩ := dispatch_eq_next h
    · rw [raise_busyError]
    · rfl
  · rw [exec_incFrame] at h
    obtain ⟨-, rfl⟩ | ⟨-, ⟨⟩, -⟩ | ⟨-, -, -, rfl⟩ | ⟨-, -, -, rfl⟩ := dispatch_eq_next h
    · rw [raise_busyError]
    · rw [raise_state]
    · rfl

/-- Settles O21: BusyError, or either end of CONSTRUCT's body. -/
theorem frameOfConstruct : Obligations.FrameOfConstruct := by
  refine fun s t h => ⟨?_, exec_bufferByte h (by decide)⟩
  rw [exec_construct] at h
  obtain ⟨-, rfl⟩ | ⟨-, ⟨⟩, -⟩ | ⟨-, -, ⟨⟩, -⟩ | ⟨-, -, -, rfl⟩ := dispatch_eq_next h
  · rw [raise_busyError]
  · obtain ⟨-, e⟩ | ⟨-, e⟩ := construct_cases s
    · rw [e]
    · rw [e, raise_seed]

theorem pending_instr_ne_sreset (c : Pending) : c.instr ≠ .sreset := by
  cases c <;> simp [Pending.instr]

/-- Settles O22: the four ends of the one dispatch that the three commands are. -/
theorem frameOfSequencedWrites : Obligations.FrameOfSequencedWrites := by
  intro s t i hi h
  obtain ⟨c, rfl⟩ := (exists_pending_instr_iff i).mpr hi
  refine ⟨?_, exec_bufferByte h (pending_instr_ne_sreset c)⟩
  rw [exec_sequenced] at h
  obtain ⟨-, rfl⟩ | ⟨-, -, rfl⟩ | ⟨-, -, -, rfl⟩ | ⟨-, -, -, rfl⟩ := dispatch_eq_next h
  · rw [raise_busyError]
  · rw [raise_command]
  · rw [raise_state]
  · rfl

end Sys2Proof.Machine
end

section
/-! PROOFS. The sequencer's turn and the completions of the sequenced commands: the whole next state, the frame and
the phase (spec 41_generator_commands.md R68, R69, R72, R73, 42_frame_cipher.md R75). -/

namespace Sys2Proof.Machine

section
variable {s : State}

theorem step_sequencer_init (h : s.pending = some .init) :
    step (s.withNext .sequencer) = .next (completeInit s) :=
  congrArg _ (sequencerStep_init h)

theorem step_sequencer_getFrame (h : s.pending = some .getFrame) :
    step (s.withNext .sequencer) = .next (completeGetFrame s) :=
  congrArg _ (sequencerStep_getFrame h)

theorem step_sequencer_cipherFrame {len : BitVec 6} (h : s.pending = some (.cipherFrame len)) :
    step (s.withNext .sequencer) = .next (completeCipherFrame len s) :=
  congrArg _ (sequencerStep_cipherFrame h)

end

/-! ### The turn itself (R73) -/

theorem sequencerStep_busy (s : State) : (sequencerStep s).busy = false :=
  (busy_eq_false_iff _).mpr (sequencerStep_pending s)

theorem step_sequencer_idle {s : State} (h : s.pending = none) : step (s.withNext .sequencer) = .next s :=
  congrArg _ (sequencerStep_none h)

/-- Settles O30: the turn is `sequencerStep`, and the step of a silent host is that turn. -/
theorem sequencerTurn : Obligations.SequencerTurn := fun s =>
  ⟨⟨sequencerStep s, step_sequencer s, sequencerStep_pending s, sequencerStep_busy s, sequencerStep_inputs s⟩,
    step_silent, step_sequencer_idle, fun hs hp => (step_silent hs).trans (step_sequencer_idle hp)⟩

/-! ### INIT and GET_FRAME, from the CMD write to the completion (R68, R69) -/

/-- Settles O12: the admitted INIT stands in PENDING, and the completion is that of INIT. -/
theorem initRule : Obligations.InitRule := fun _ =>
  ⟨fun hb hp => ⟨exec_init_admitted hb hp, step_sequencer_init rfl⟩, exec_init_stateError,
    exec_busyError (by decide)⟩

/-- Settles O13: the admitted GET_FRAME stands in PENDING, and the completion is that of GET_FRAME. -/
theorem getFrameRule : Obligations.GetFrameRule := fun _ =>
  ⟨fun hb hp => ⟨exec_getFrame_admitted hb hp, step_sequencer_getFrame rfl⟩, exec_getFrame_stateError,
    exec_busyError (by decide)⟩

/-! ### Frames of the completions -/

theorem byteOf_xorBelow_of_le {len : Nat} (ks data : Buffer) {k : Nat} (h : len ≤ k) :
    byteOf (xorBelow len ks data) k = byteOf data k := by
  by_cases hk : k < 57
  · rw [byteOf_lt _ hk, byteOf_lt _ hk, xorBelow_get _ _ _ hk, if_neg (Nat.not_lt.mpr h)]
  · rw [byteOf_ge _ (Nat.not_lt.mp hk), byteOf_ge _ (Nat.not_lt.mp hk)]

theorem completeGetFrame_bufferByte (s : State) {off : Nat} (hks : ¬ (0x100 ≤ off ∧ off < 0x100 + 57)) :
    (completeGetFrame s).bufferByte off = s.bufferByte off :=
  bufferByte_congr (fun h => absurd h hks) (fun _ => by rw [completeGetFrame_data])

theorem completeCipherFrame_bufferByte (len : BitVec 6) (s : State) {off : Nat}
    (hks : ¬ (0x100 ≤ off ∧ off < 0x100 + 57)) (hdata : ¬ (0x200 ≤ off ∧ off < 0x200 + len.toNat)) :
    (completeCipherFrame len s).bufferByte off = s.bufferByte off := by
  refine bufferByte_congr (fun h => absurd h hks) fun h => ?_
  rw [completeCipherFrame_data, byteOf_xorBelow_of_le _ _ (by omega)]

/-- Settles O23: each completion is a record update of the fields named, and of the buffers it writes KS and the
first LEN bytes of DATA. -/
theorem frameOfCompletions : Obligations.FrameOfCompletions := by
  intro s t hstep
  refine ⟨fun hp => ?_, fun hp => ?_, fun len hp => ?_⟩
  · rw [step_sequencer_init hp] at hstep
    cases hstep
    exact ⟨rfl, bufferByte_of_same_buffers (completeInit_ks s) (completeInit_data s)⟩
  · rw [step_sequencer_getFrame hp] at hstep
    cases hstep
    exact ⟨rfl, fun _ => completeGetFrame_bufferByte s⟩
  · rw [step_sequencer_cipherFrame hp] at hstep
    cases hstep
    exact ⟨rfl, fun _ => completeCipherFrame_bufferByte len s⟩

/-! ### The phase transition table (R72) -/

theorem construct_phase (s : State) :
    (construct s).phase = if s.frameIn.toNat < 2 ^ 22 then .constructed else .none := by
  split
  case isTrue h => rw [construct_inRange h]
  case isFalse h => rw [construct_outOfRange (Nat.not_lt.mp h)]

/-- Only CONSTRUCT and SRESET change the phase at their CMD write; the sequenced commands change it later. -/
theorem CommandEffect.phase {s t : State} {i : Instr} (h : CommandEffect s i t) (hc : i ≠ .construct)
    (hs : i ≠ .sreset) : t.phase = s.phase := by
  cases h with
  | construct => exact absurd rfl hc
  | sreset => exact absurd rfl hs
  | _ => simp

theorem phase_of_completion {s t : State} (hstep : step (s.withNext .sequencer) = .next t) :
    (s.pending = some .init → t.phase = .seeded) ∧
    (s.pending = some .getFrame → t.phase = .extracting) ∧
    (∀ len, s.pending = some (.cipherFrame len) → t.phase = .extracting) := by
  rw [step_sequencer] at hstep
  cases hstep
  refine ⟨fun hp => ?_, fun hp => ?_, fun len hp => ?_⟩
  · rw [sequencerStep_init hp, completeInit_phase]
  · rw [sequencerStep_getFrame hp, completeGetFrame_phase]
  · rw [sequencerStep_cipherFrame hp, completeCipherFrame_phase]

/-- Settles O19: what each command does to the phase at its CMD write and at its completion, then the cells of the
table in which a command is refused or goes pending. -/
theorem phaseTable : Obligations.PhaseTable := by
  refine ⟨?construct, ?sameAtOnce, ?sreset, ?sequenced, fun _ _ => phase_of_completion, ?inNone, ?inConstructed,
    ?admitted, fun _ _ hb hi => exec_busyError hi hb⟩
  case construct =>
    intro s t hb h
    rw [exec_construct_idle hb] at h
    cases h
    exact construct_phase s
  case sameAtOnce =>
    rintro s t (h | h)
    · exact (exec_effect h).phase (by decide) (by decide)
    · exact (exec_effect h).phase (by decide) (by decide)
  case sreset =>
    rintro s t ⟨⟩
    exact resetBlock_phase s
  case sequenced =>
    rintro s t i h (rfl | rfl | ⟨len, rfl⟩)
    · exact (exec_effect h).phase (by decide) (by decide)
    · exact (exec_effect h).phase (by decide) (by decide)
    · exact (exec_effect h).phase (by simp) (by simp)
  case inNone =>
    exact fun s hb hp => ⟨exec_init_stateError hb hp, exec_getFrame_stateError hb (.inl hp),
      exec_incFrame_stateError hb hp, fun len h1 h57 => exec_cipherFrame_stateError hb ⟨h1, h57⟩ hp⟩
  case inConstructed => exact fun s hb hp => exec_getFrame_stateError hb (.inr hp)
  case admitted =>
    intro s hb hp
    refine ⟨exec_init_admitted hb hp, fun len h1 h57 => exec_cipherFrame_admitted hb ⟨h1, h57⟩ hp, fun hc => ?_⟩
    have hseeded : s.phase = .seeded ∨ s.phase = .extracting := by
      cases h : s.phase <;> simp_all
    exact exec_getFrame_admitted hb hseeded

end Sys2Proof.Machine
end

section
/-! PROOFS. Runs: BUSY falls once the inputs are used up, and with no reset, SRESET or loss of power to come the
pending command completes from the operands as they are (spec 41_generator_commands.md R73, 20_memory.md R39). -/

namespace Sys2Proof.Machine

/-! ### Runs, input by input -/

theorem run_of_inputs_nil {s : State} (h : s.inputs = []) :
    Host.Core.run core 1 s = .next (sequencerStep s) :=
  core_run_next core 0 s _ (step_of_inputs_nil h)

theorem run_of_inputs_cons {s t : State} {e : Input} {rest : List Input} (h : s.inputs = e :: rest)
    (ht : perform e { s with inputs := rest } = .next t) (k : Nat) :
    Host.Core.run core (k + 1) s = Host.Core.run core k t :=
  core_run_next core k s t ((step_of_inputs_cons h).trans ht)

@[simp] theorem construct_inputs (s : State) : (construct s).inputs = s.inputs := by
  obtain ⟨-, h⟩ | ⟨-, h⟩ := construct_cases s <;> simp [h]

theorem CommandEffect.inputs {s t : State} {i : Instr} (h : CommandEffect s i t) : t.inputs = s.inputs := by
  cases h <;> simp

/-- No input adds to or takes from the inputs after it. -/
theorem Effect.inputs {s t : State} {e : Input} (h : Effect s e t) : t.inputs = s.inputs := by
  cases h with
  | command _ _ hc => exact hc.inputs
  | sequencer => exact sequencerStep_inputs s
  | powerLoss => rfl
  | _ => simp

/-! ### BUSY falls -/

/-- Once its inputs are used up, the run ends with a turn of the sequencer. -/
theorem run_uses_up_inputs (inputs : List Input) :
    ∀ s : State, s.inputs = inputs → ∃ t : State, t.inputs = [] ∧
      Host.Core.run core (inputs.length + 1) s = .next (sequencerStep t) := by
  induction inputs with
  | nil => exact fun s hs => ⟨s, hs, run_of_inputs_nil hs⟩
  | cons e rest ih =>
    intro s hs
    obtain ⟨u, hu⟩ := perform_next e { s with inputs := rest }
    obtain ⟨t, ht, hrun⟩ := ih u (perform_effect hu).inputs
    exact ⟨t, ht, (run_of_inputs_cons hs hu _).trans hrun⟩

/-- Settles O31: the last step of the run is a turn of the sequencer, which empties PENDING. -/
theorem busyFallsWhateverTheInputs : Obligations.BusyFallsWhateverTheInputs := by
  intro s
  obtain ⟨t, ht, hrun⟩ := run_uses_up_inputs s.inputs s rfl
  exact ⟨_, hrun, (sequencerStep_inputs t).trans ht, sequencerStep_pending t, sequencerStep_busy t⟩

/-! ### The operands of a pending command while the host acts (20_memory.md R39) -/

/-- s and t agree on the pending command and on everything that its completion reads, and on KS. -/
structure State.SameOperands (s t : State) : Prop where
  build   : t.build = s.build
  bank    : t.bank = s.bank
  key     : t.key = s.key
  fn      : t.fn = s.fn
  fbase   : t.fbase = s.fbase
  fidx    : t.fidx = s.fidx
  ks      : t.ks = s.ks
  data    : t.data = s.data
  pending : t.pending = s.pending

theorem State.SameOperands.refl (s : State) : s.SameOperands s := ⟨rfl, rfl, rfl, rfl, rfl, rfl, rfl, rfl, rfl⟩

theorem State.SameOperands.trans {s t u : State} (h : s.SameOperands t) (h' : t.SameOperands u) :
    s.SameOperands u :=
  ⟨h'.build.trans h.build, h'.bank.trans h.bank, h'.key.trans h.key, h'.fn.trans h.fn, h'.fbase.trans h.fbase,
    h'.fidx.trans h.fidx, h'.ks.trans h.ks, h'.data.trans h.data, h'.pending.trans h.pending⟩

theorem State.SameOperands.busy {s t : State} (h : s.SameOperands t) : t.busy = s.busy :=
  congrArg Option.isSome h.pending

theorem sameOperands_withInputs (s : State) (inputs : List Input) : s.SameOperands { s with inputs := inputs } :=
  ⟨rfl, rfl, rfl, rfl, rfl, rfl, rfl, rfl, rfl⟩

theorem sameOperands_raise (e : ErrorKind) (s : State) : s.SameOperands (raise e s) :=
  ⟨rfl, rfl, rfl, rfl, rfl, rfl, rfl, rfl, rfl⟩

/-- While BUSY = 1 a command other than SRESET only raises BusyError. -/
theorem CommandEffect.sameOperands {s t : State} {i : Instr} (h : CommandEffect s i t) (hb : s.busy = true)
    (hi : i ≠ .sreset) : s.SameOperands t := by
  cases h with
  | sreset => exact absurd rfl hi
  | busyError => exact sameOperands_raise .busy s
  | _ => simp_all

/-- While BUSY = 1 a host access other than an SRESET write leaves the operands: a CMD or DATA write is refused
and the rest touches STATUS, the staging registers or the model's own fields. -/
theorem Effect.sameOperands {s t : State} {e : Input} (h : Effect s e t) (hb : s.busy = true)
    (hs : ¬ s.isSresetWrite e) (hseq : e ≠ .sequencer) (hreset : e ≠ .reset) (hpower : e ≠ .powerLoss) :
    s.SameOperands t := by
  cases h with
  | command hw hd hc =>
    refine hc.sameOperands hb ?_
    rintro rfl
    exact hs ⟨_, off_lt_four_of_cmd hw, congrArg _ (encode_of_decode hd).symm⟩
  | illegalBusy | illegal | dataBusy => exact sameOperands_raise _ s
  | dataStore _ hidle => simp [hb] at hidle
  | sequencer => exact absurd rfl hseq
  | reset => exact absurd rfl hreset
  | powerLoss => exact absurd rfl hpower
  | read | ignored | status | keyLo | keyHi | frameIn => exact ⟨rfl, rfl, rfl, rfl, rfl, rfl, rfl, rfl, rfl⟩

/-! ### The completion (R73) -/

/-- e does not abandon a pending command of s. -/
def State.Spares (s : State) (e : Input) : Prop :=
  e ≠ .reset ∧ e ≠ .powerLoss ∧ ¬ s.isSresetWrite e

/-- Which inputs are SRESET writes depends on the base address alone. -/
theorem State.Spares.congr {s t : State} {e : Input} (h : s.Spares e) (hbuild : t.build = s.build) :
    t.Spares e := by
  obtain ⟨hreset, hpower, hs⟩ := h
  refine ⟨hreset, hpower, ?_⟩
  rintro ⟨off, hoff, he⟩
  rw [State.writeInput, hbuild] at he
  exact hs ⟨off, hoff, he⟩

/-- With no input to come that abandons it, a pending command completes, in a sequencer's turn at a state with the
operands of s: the first such turn among the inputs, or the one after them. -/
theorem run_completes_pending (inputs : List Input) :
    ∀ s : State, s.inputs = inputs → s.busy = true → (∀ e ∈ inputs, s.Spares e) →
      ∃ (n : Nat) (r : State), n ≤ inputs.length ∧ s.SameOperands r ∧
        Host.Core.run core (n + 1) s = .next (sequencerStep r) := by
  induction inputs with
  | nil => exact fun s hs _ _ => ⟨0, s, le_rfl, .refl s, run_of_inputs_nil hs⟩
  | cons e rest ih =>
    intro s hs hb hspares
    have hrest := sameOperands_withInputs s rest
    by_cases hseq : e = .sequencer
    · subst hseq
      exact ⟨0, _, Nat.zero_le _, hrest, run_of_inputs_cons hs rfl 0⟩
    · obtain ⟨u, hu⟩ := perform_next e { s with inputs := rest }
      have heff := perform_effect hu
      obtain ⟨hreset, hpower, hsreset⟩ := (hspares e List.mem_cons_self).congr hrest.build
      have hsame := hrest.trans (heff.sameOperands hb hsreset hseq hreset hpower)
      obtain ⟨n, r, hn, hr, hrun⟩ := ih u heff.inputs (hsame.busy.trans hb)
        fun e' he' => (hspares e' (List.mem_cons_of_mem e he')).congr hsame.build
      exact ⟨n + 1, r, Nat.succ_le_succ hn, hsame.trans hr, (run_of_inputs_cons hs hu _).trans hrun⟩

/-! ### The results of a completion, from the operands (R68, R69, 42_frame_cipher.md R75) -/

section
variable {s r : State}

theorem State.SameOperands.init_results (h : s.SameOperands r) (hp : s.pending = some .init) :
    (sequencerStep r).bank = seed s.build s.key s.fn s.bank ∧ (sequencerStep r).phase = .seeded ∧
      (sequencerStep r).ks = s.ks ∧ (sequencerStep r).data = s.data := by
  rw [sequencerStep_init (h.pending.trans hp), ← h.build, ← h.key, ← h.fn, ← h.bank, ← h.ks, ← h.data]
  exact ⟨completeInit_bank r, completeInit_phase r, completeInit_ks r, completeInit_data r⟩

theorem State.SameOperands.getFrame_results (h : s.SameOperands r) (hp : s.pending = some .getFrame) :
    (sequencerStep r).bank = (keystreamFrame s.build.r3BugCompat s.bank).2 ∧
      (sequencerStep r).ks = (keystreamFrame s.build.r3BugCompat s.bank).1 ∧
      (sequencerStep r).ksv = true ∧ (sequencerStep r).phase = .extracting ∧ (sequencerStep r).data = s.data := by
  rw [sequencerStep_getFrame (h.pending.trans hp), ← h.build, ← h.bank, ← h.data]
  exact ⟨completeGetFrame_bank r, completeGetFrame_ks r, completeGetFrame_ksv r, completeGetFrame_phase r,
    completeGetFrame_data r⟩

end

theorem completeCipherFrame_fn_toNat (len : BitVec 6) (s : State) :
    (completeCipherFrame len s).fn.toNat = (s.fbase.toNat + s.fidx.toNat) % 2 ^ 22 := by
  rw [completeCipherFrame_fn]
  exact BitVec.toNat_ofNat _ _

theorem completeCipherFrame_fnWrap_eq (len : BitVec 6) (s : State) :
    (completeCipherFrame len s).fnWrap = (s.fnWrap || decide (2 ^ 22 ≤ s.fbase.toNat + s.fidx.toNat)) :=
  (completeCipherFrame_fnWrap len s).trans (congrArg (s.fnWrap || ·) (ble_frameSum s))

theorem completeCipherFrame_fnWrap_of_le (len : BitVec 6) {s : State} (h : 2 ^ 22 ≤ s.fbase.toNat + s.fidx.toNat) :
    (completeCipherFrame len s).fnWrap = true := by
  rw [completeCipherFrame_fnWrap_eq, decide_eq_true h, Bool.or_true]

/-! The registers and KS that the completion leaves, from the FN that it leaves. -/

theorem completeCipherFrame_bank_of_fn (len : BitVec 6) (s : State) :
    (completeCipherFrame len s).bank =
      (keystreamFrame s.build.r3BugCompat (seed s.build s.key (completeCipherFrame len s).fn s.bank)).2 := by
  rw [completeCipherFrame_bank, completeCipherFrame_fn]

theorem completeCipherFrame_ks_of_fn (len : BitVec 6) (s : State) :
    (completeCipherFrame len s).ks =
      (keystreamFrame s.build.r3BugCompat (seed s.build s.key (completeCipherFrame len s).fn s.bank)).1 := by
  rw [completeCipherFrame_ks, completeCipherFrame_fn]

theorem completeCipherFrame_data_get (len : BitVec 6) (s : State) {k : Nat} (hk : k < 57) :
    (completeCipherFrame len s).data[k] =
      if k < len.toNat then s.data[k] ^^^ (completeCipherFrame len s).ks[k] else s.data[k] := by
  simp only [completeCipherFrame_data, completeCipherFrame_ks, xorBelow_get _ _ _ hk]

theorem completeCipherFrame_fidx_toNat (len : BitVec 6) (s : State) :
    (completeCipherFrame len s).fidx.toNat = (s.fidx.toNat + 1) % 2 ^ 32 := by
  rw [completeCipherFrame_fidx]
  exact BitVec.toNat_add _ _

/-- Settles O55: the pending command completes at a state with the operands of s, and its results are read off the
completion there. -/
theorem pendingCommandCompletesUnlessReset : Obligations.PendingCommandCompletesUnlessReset := by
  intro s hb hspares
  obtain ⟨n, r, hn, hr, hrun⟩ := run_completes_pending s.inputs s rfl hb hspares
  refine ⟨n, sequencerStep r, hn, hrun, sequencerStep_busy r, hr.init_results, hr.getFrame_results,
    fun len hp => ?_⟩
  rw [sequencerStep_cipherFrame (hr.pending.trans hp), ← hr.fbase, ← hr.fidx, ← hr.build, ← hr.key, ← hr.bank,
    ← hr.data]
  exact ⟨completeCipherFrame_fn_toNat len r, fun hsum => completeCipherFrame_fnWrap_of_le len hsum,
    completeCipherFrame_bank_of_fn len r, completeCipherFrame_ks_of_fn len r,
    fun _ hk => completeCipherFrame_data_get len r hk,
    completeCipherFrame_fidx_toNat len r, completeCipherFrame_ksv len r, completeCipherFrame_phase len r⟩

end Sys2Proof.Machine
end

section
/-! PROOFS. The keystream over two commands: a second GET_FRAME continues the first, and INIT then GET_FRAME give what
the seed gives (spec 41_generator_commands.md R69, R74). -/

namespace Sys2Proof.Machine

/-! ### A whole GET_FRAME -/

/-- A GET_FRAME that stands in PENDING after its CMD write was accepted there. -/
theorem eq_accept_of_exec_getFrame {s a : State} (hb : s.busy = false) (h : exec .getFrame s = .next a)
    (hp : a.pending = some .getFrame) : a = accept .getFrame s := by
  have hidle : s.pending = none := (busy_eq_false_iff s).mp hb
  rw [exec_getFrame] at h
  obtain ⟨-, rfl⟩ | ⟨-, ⟨⟩, -⟩ | ⟨-, -, -, rfl⟩ | ⟨-, -, -, rfl⟩ := dispatch_eq_next h
  · simp [hidle] at hp
  · simp [hidle] at hp
  · rfl

/-- From an idle state in SEEDED or EXTRACTING, a GET_FRAME goes pending. -/
theorem exec_getFrame_pending {s a : State} (hidle : s.pending = none)
    (hphase : s.phase = .seeded ∨ s.phase = .extracting) (h : exec .getFrame s = .next a) :
    a.pending = some .getFrame := by
  rw [exec_getFrame_admitted ((busy_eq_false_iff s).mpr hidle) hphase] at h
  cases h
  rfl

/-- What a GET_FRAME that was accepted at s and then completed leaves. -/
theorem getFrame_results {s a b : State} (hidle : s.pending = none) (h : exec .getFrame s = .next a)
    (hp : a.pending = some .getFrame) (hstep : step (a.withNext .sequencer) = .next b) :
    b.build = s.build ∧ b.pending = none ∧ b.phase = .extracting ∧
      keystreamFrame s.build.r3BugCompat s.bank = (b.ks, b.bank) := by
  obtain rfl := eq_accept_of_exec_getFrame ((busy_eq_false_iff s).mpr hidle) h hp
  rw [step_sequencer_getFrame hp] at hstep
  cases hstep
  exact ⟨completeGetFrame_build _, completeGetFrame_pending _, completeGetFrame_phase _,
    (Prod.ext (completeGetFrame_ks _) (completeGetFrame_bank _)).symm⟩

/-! ### Two frames (R69) -/

/-- The bits of the frame that follows a whole frame: 456 majority cycles on. -/
theorem keystreamFrame_next_getLsbD (bug : Bool) (b : Bank) {k t : Nat} (hk : k < 57) (ht : t < 8) :
    ((keystreamFrame bug (keystreamFrame bug b).2).1[k]).getLsbD (7 - t) =
      ((majorityCycle bug)^[8 * (57 + k) + t + 1] b).outputXor := by
  obtain ⟨-, hbank⟩ := keystreamFrameBits bug b
  obtain ⟨hbits, -⟩ := keystreamFrameBits bug (keystreamFrame bug b).2
  rw [hbits k hk t ht, hbank, ← Function.iterate_add_apply, show 8 * k + t + 1 + 456 = 8 * (57 + k) + t + 1 by omega]
  rfl

/-- Settles O52: the second frame starts from the registers that the first one left. -/
theorem secondFrameContinues : Obligations.SecondFrameContinues := by
  intro s a b c d hb hexec hp hstep hexec' hstep' k hk t ht
  obtain ⟨hbuild, hidle, hphase, hfirst⟩ := getFrame_results ((busy_eq_false_iff s).mp hb) hexec hp hstep
  have hp' := exec_getFrame_pending hidle (.inr hphase) hexec'
  obtain ⟨-, -, -, hsecond⟩ := getFrame_results hidle hexec' hp' hstep'
  have hks : d.ks = (keystreamFrame s.build.r3BugCompat (keystreamFrame s.build.r3BugCompat s.bank).2).1 := by
    rw [hfirst, ← hbuild, hsecond]
  rw [hks]
  exact keystreamFrame_next_getLsbD s.build.r3BugCompat s.bank hk ht

/-! ### INIT, then GET_FRAME (R74) -/

/-- With P_CLEAR_ON_INIT the registers before do not matter to seeding (R60). -/
theorem seed_eq_of_clearOnInit {build : Build} (h : build.clearOnInit = true) (key : BitVec 64) (fn : BitVec 22)
    (b b' : Bank) : seed build key fn b = seed build key fn b' := by
  simp only [seed_eq_iterate, h, if_true]

/-- A completed INIT, then a GET_FRAME, give the first frame of the seeded registers. -/
theorem init_getFrame_results {s a b c : State} (hp : s.pending = some .init)
    (hinit : step (s.withNext .sequencer) = .next a) (hexec : exec .getFrame a = .next b)
    (hstep : step (b.withNext .sequencer) = .next c) :
    keystreamFrame s.build.r3BugCompat (seed s.build s.key s.fn s.bank) = (c.ks, c.bank) := by
  rw [step_sequencer_init hp] at hinit
  cases hinit
  have hidle := completeInit_pending s
  have hp' := exec_getFrame_pending hidle (.inl (completeInit_phase s)) hexec
  obtain ⟨-, -, -, hframe⟩ := getFrame_results hidle hexec hp' hstep
  rwa [completeInit_build, completeInit_bank] at hframe

/-- Settles O53: both runs give the first frame of their seeded registers, and these agree. -/
theorem keystreamDependsOnlyOnSeed : Obligations.KeystreamDependsOnlyOnSeed := by
  intro s s' a a' b b' c c' hp hp' hkey hfn hbuild hbank hinit hinit' hexec hexec' hstep hstep'
  have hseed : seed s.build s.key s.fn s.bank = seed s'.build s'.key s'.fn s'.bank := by
    rw [← hkey, ← hfn, ← hbuild]
    obtain hclear | hsame := hbank
    · exact seed_eq_of_clearOnInit hclear s.key s.fn s.bank s'.bank
    · rw [hsame]
  have hframe := init_getFrame_results hp hinit hexec hstep
  rw [hseed, hbuild, init_getFrame_results hp' hinit' hexec' hstep'] at hframe
  obtain ⟨hks, hbank⟩ := Prod.mk.inj hframe
  exact ⟨hks.symm, hbank.symm⟩

end Sys2Proof.Machine
end

section
/-! PROOFS. CIPHER_FRAME: from the CMD write to the completion, the XOR as its own inverse, and what the completion
does not depend on (spec 41_generator_commands.md R65, 42_frame_cipher.md R75, R76, R79). -/

namespace Sys2Proof.Machine

/-! ### From the CMD write to the completion (R75, R76) -/

section
variable {s : State}

theorem exec_sequenced_commandError {c : Pending} (hb : s.busy = false) (hlen : pendingLenLegal c = false) :
    exec c.instr s = .next { s with errCmd := true } := by
  rw [exec_sequenced, hlen]
  exact (dispatch_illegal hb).trans (congrArg _ (raise_command s))

theorem exec_cipherFrame_commandError {len : BitVec 6} (hb : s.busy = false)
    (hlen : len.toNat = 0 ∨ 57 < len.toNat) :
    exec (.cipherFrame len) s = .next { s with errCmd := true } :=
  exec_sequenced_commandError (c := .cipherFrame len) hb ((lenLegal_eq_false_iff len).mpr hlen)

end

/-- Settles O15: the admitted CIPHER_FRAME stands in PENDING, and its completion is read off field by field. -/
theorem cipherFrameRule : Obligations.CipherFrameRule := by
  refine fun len s => ⟨fun hb h1 h57 hp => ⟨exec_cipherFrame_admitted hb ⟨h1, h57⟩ hp, ?completion⟩,
    exec_cipherFrame_commandError, fun hb h1 h57 hp => exec_cipherFrame_stateError hb ⟨h1, h57⟩ hp,
    exec_busyError (by simp)⟩
  exact ⟨_, step_sequencer_cipherFrame rfl, completeCipherFrame_fn_toNat len _, completeCipherFrame_fnWrap_eq len _,
    completeCipherFrame_bank_of_fn len _, completeCipherFrame_ks_of_fn len _,
    fun _ hk => completeCipherFrame_data_get len _ hk, completeCipherFrame_fidx_toNat len _,
    completeCipherFrame_ksv len _, completeCipherFrame_phase len _, completeCipherFrame_pending len _, rfl⟩

/-! ### The inverse (R79) -/

theorem xorBelow_xorBelow (len : Nat) (ks data : Buffer) : xorBelow len ks (xorBelow len ks data) = data := by
  ext k hk : 1
  rw [xorBelow_get _ _ _ hk, xorBelow_get _ _ _ hk]
  split
  · rw [BitVec.xor_assoc, BitVec.xor_self, BitVec.xor_zero]
  · rfl

/-- DATA takes the keystream that the completion leaves in KS. -/
theorem completeCipherFrame_data_of_ks (len : BitVec 6) (s : State) :
    (completeCipherFrame len s).data = xorBelow len.toNat (completeCipherFrame len s).ks s.data := by
  rw [completeCipherFrame_data, completeCipherFrame_ks]

/-- The keystream does not depend on DATA (70_reset_and_hazards.md R102). -/
theorem completeCipherFrame_ks_withData (len : BitVec 6) (s : State) (d : Buffer) :
    (completeCipherFrame len { s with data := d }).ks = (completeCipherFrame len s).ks := rfl

/-- Settles O50: both completions XOR the same keystream over the same bytes of DATA. -/
theorem cipherFrameIsItsOwnInverse : Obligations.CipherFrameIsItsOwnInverse := by
  intro s t u len hp hstep hstep'
  rw [step_sequencer_cipherFrame hp] at hstep
  cases hstep
  rw [step_sequencer_cipherFrame (s := { s with data := (completeCipherFrame len s).data }) hp] at hstep'
  cases hstep'
  rw [completeCipherFrame_data_of_ks, completeCipherFrame_ks_withData, completeCipherFrame_data_of_ks len s]
  exact xorBelow_xorBelow _ _ _

/-! ### What the completion does not depend on (R75) -/

theorem completeCipherFrame_withFn (len : BitVec 6) (s : State) (f : BitVec 22) :
    completeCipherFrame len { s with fn := f } = completeCipherFrame len s := rfl

/-- With another LEN, and whatever stands in PENDING, the completion differs in DATA alone. -/
theorem completeCipherFrame_withLen (len len' : BitVec 6) (s : State) (c : Option Pending) :
    completeCipherFrame len' { s with pending := c } =
      { completeCipherFrame len s with data := xorBelow len'.toNat (completeCipherFrame len s).ks s.data } := rfl

/-- Settles O51: the completion takes its frame number from FBASE and FIDX, and LEN only bounds the XOR. -/
theorem cipherFrameIgnoresFnAndLen : Obligations.CipherFrameIgnoresFnAndLen := by
  intro s t len len' f hp hstep
  rw [step_sequencer_cipherFrame hp] at hstep
  cases hstep
  refine ⟨?_, _, (step_sequencer_cipherFrame rfl).trans (congrArg _ (completeCipherFrame_withLen len len' s _))⟩
  rw [step_sequencer_cipherFrame (s := { s with fn := f }) hp, completeCipherFrame_withFn]

end Sys2Proof.Machine
end

section
/-! PROOFS. What the host cannot tell: two states that differ in R1, R2, R3, KEY, KEY_LO and KEY_HI alone answer every
input but a turn of the sequencer with two such states (spec 10_state.md R17, R19, R25, 60_exceptions.md R90, R92). -/

namespace Sys2Proof.Machine

/-! ### The pieces of state that no read returns -/

/-- R1, R2, R3 and the two keys, held and staged (10_state.md R17, R19, R25). -/
structure Secrets where
  bank  : Bank
  key   : BitVec 64
  keyLo : Word
  keyHi : Word

/-- s with other secrets. -/
def State.withSecrets (s : State) (x : Secrets) : State :=
  { s with bank := x.bank, key := x.key, keyLo := x.keyLo, keyHi := x.keyHi }

theorem sameToHost_iff (s t : State) : s.SameToHost t ↔ ∃ x : Secrets, t = s.withSecrets x := by
  constructor
  · exact fun h => ⟨⟨t.bank, t.key, t.keyLo, t.keyHi⟩, h⟩
  · rintro ⟨x, rfl⟩
    rfl

theorem sameToHost_withSecrets (s : State) (x : Secrets) : s.SameToHost (s.withSecrets x) := rfl

theorem withNext_withSecrets (s : State) (e : Input) (x : Secrets) :
    (s.withNext e).withSecrets x = (s.withSecrets x).withNext e := rfl

/-! Nothing that decides what a step does reads a secret. -/

@[simp] theorem withSecrets_build (s : State) (x : Secrets) : (s.withSecrets x).build = s.build := rfl
@[simp] theorem withSecrets_busy (s : State) (x : Secrets) : (s.withSecrets x).busy = s.busy := rfl
@[simp] theorem withSecrets_frameInRange (s : State) (x : Secrets) :
    (s.withSecrets x).frameInRange = s.frameInRange := rfl

/-- No word of the window reads a secret: KEY_LO and KEY_HI read 0 (20_memory.md R36). -/
@[simp] theorem readWord_withSecrets (s : State) (x : Secrets) (r : WindowWord) :
    readWord (s.withSecrets x) r = readWord s r := by
  cases r <;> rfl

/-! ### Reads (20_memory.md R36, R37) -/

/-- A free value is told apart by the count of draws alone (logs 5, 8). -/
theorem readOffset_withSecrets (off : Nat) (s : State) (x : Secrets) :
    readOffset off (s.withSecrets x) = (readOffset off s).withSecrets x := by
  rw [readOffset, readOffset, withSecrets_busy, readWord_withSecrets]
  split <;> rfl

theorem hostRead_withSecrets (addr : Nat) (s : State) (x : Secrets) :
    hostRead addr (s.withSecrets x) = (hostRead addr s).withSecrets x := by
  rw [hostRead, hostRead, withSecrets_build]
  split
  · exact readOffset_withSecrets _ s x
  · rfl

/-! ### Writes (20_memory.md R38, R39, 41_generator_commands.md R65) -/

/-- Both outcomes are next states, and the host cannot tell these apart. -/
def SameOutcome (o o' : Host.Outcome State Fault Refusal) : Prop :=
  ∃ s t : State, o = .next s ∧ o' = .next t ∧ s.SameToHost t

theorem sameOutcome_next {s t : State} (h : s.SameToHost t) : SameOutcome (.next s) (.next t) :=
  ⟨s, t, rfl, rfl, h⟩

/-- CONSTRUCT takes the new KEY from KEY_LO and KEY_HI, and whether it does from FRAME_IN alone (R67). -/
theorem construct_withSecrets (s : State) (x : Secrets) : (construct s).SameToHost (construct (s.withSecrets x)) := by
  rw [construct, construct, withSecrets_frameInRange]
  split <;> rfl

/-- A CMD write is checked alike with other secrets, so it ends alike when the effect it dispatches does. -/
theorem dispatch_withSecrets (legal admitted : Bool) {f : State → State} (s : State) (x : Secrets)
    (hf : (f s).SameToHost (f (s.withSecrets x))) :
    SameOutcome (dispatch legal admitted f s) (dispatch legal admitted f (s.withSecrets x)) := by
  obtain ⟨hb, e⟩ | ⟨hb, rfl, e⟩ | ⟨hb, rfl, rfl, e⟩ | ⟨hb, rfl, rfl, e⟩ := dispatch_cases legal admitted f s
  all_goals rw [e]
  · rw [dispatch_busy ((withSecrets_busy s x).trans hb)]
    exact sameOutcome_next rfl
  · rw [dispatch_illegal ((withSecrets_busy s x).trans hb)]
    exact sameOutcome_next rfl
  · rw [dispatch_notAdmitted ((withSecrets_busy s x).trans hb)]
    exact sameOutcome_next rfl
  · rw [dispatch_runs ((withSecrets_busy s x).trans hb)]
    exact sameOutcome_next hf

/-- A sequenced command only goes pending at its CMD write; the secrets enter at its completion. -/
theorem exec_withSecrets (i : Instr) (s : State) (x : Secrets) :
    SameOutcome (exec i s) (exec i (s.withSecrets x)) := by
  cases i with
  | sreset => exact sameOutcome_next rfl
  | construct => exact dispatch_withSecrets true true s x (construct_withSecrets s x)
  | nop => exact dispatch_withSecrets (f := fun t => t) true true s x rfl
  | init => exact dispatch_withSecrets true s.hasContext s x rfl
  | getFrame => exact dispatch_withSecrets true s.isSeeded s x rfl
  | incFrame => exact dispatch_withSecrets true s.hasContext s x rfl
  | cipherFrame len => exact dispatch_withSecrets (lenLegal len) s.hasContext s x rfl

theorem writeCommand_withSecrets (v : Word) (s : State) (x : Secrets) :
    SameOutcome (writeCommand v s) (writeCommand v (s.withSecrets x)) := by
  rw [writeCommand, writeCommand]
  cases decode v with
  | ok i => exact exec_withSecrets i s x
  | error => exact dispatch_withSecrets false true s x rfl

theorem writeData_withSecrets (j : Nat) (v : Word) (s : State) (x : Secrets) :
    writeData j v (s.withSecrets x) = (writeData j v s).withSecrets x := by
  rw [writeData, writeData, withSecrets_busy]
  split <;> rfl

/-- A write to KEY_LO or KEY_HI changes a secret alone. -/
theorem writeWord_withSecrets (v : Word) (s : State) (x : Secrets) (r : WindowWord) :
    SameOutcome (writeWord v s r) (writeWord v (s.withSecrets x) r) := by
  cases r with
  | cmd => exact writeCommand_withSecrets v s x
  | data j => exact sameOutcome_next ((sameToHost_iff _ _).mpr ⟨x, writeData_withSecrets j v s x⟩)
  | _ => exact sameOutcome_next rfl

theorem hostWrite_withSecrets (addr : Nat) (v : Word) (s : State) (x : Secrets) :
    SameOutcome (hostWrite addr v s) (hostWrite addr v (s.withSecrets x)) := by
  rw [hostWrite, hostWrite, withSecrets_build]
  split
  · exact writeWord_withSecrets v s x _
  · exact sameOutcome_next (sameToHost_withSecrets s x)

/-! ### Every input but a turn of the sequencer -/

/-- A reset leaves no secret of before, and a loss of power draws all of its free values by their count (log 8). -/
theorem perform_withSecrets {e : Input} (he : e ≠ .sequencer) (s : State) (x : Secrets) :
    SameOutcome (perform e s) (perform e (s.withSecrets x)) := by
  cases e with
  | read addr => exact sameOutcome_next ((sameToHost_iff _ _).mpr ⟨x, hostRead_withSecrets addr s x⟩)
  | write addr v => exact hostWrite_withSecrets addr v s x
  | sequencer => exact absurd rfl he
  | reset => exact sameOutcome_next rfl
  | powerLoss => exact sameOutcome_next rfl

/-- Settles O47: the two states have the same next input, and it ends alike whatever the secrets are. -/
theorem secretsReachTheHostOnlyThroughTheSequencer : Obligations.SecretsReachTheHostOnlyThroughTheSequencer := by
  intro s t s' hsame hinputs hhead hstep
  obtain ⟨x, rfl⟩ := (sameToHost_iff s t).mp hsame
  obtain hnil | ⟨r, e, rfl⟩ := inputs_cases s
  · exact absurd hnil hinputs
  · have he : e ≠ .sequencer := fun h => hhead (congrArg some h)
    obtain ⟨u, t', hu, ht', hsame'⟩ := perform_withSecrets he r x
    obtain rfl : u = s' := Host.Outcome.next.inj (hu.symm.trans hstep)
    rw [withNext_withSecrets, step_withNext]
    exact ⟨t', ht', hsame'⟩

end Sys2Proof.Machine
end

section
/-! PROOFS. A set bit of STATUS 8 to 12 stays: one lemma over the effects of a command, and one over those of an input
(spec 10_state.md R28, 60_exceptions.md R88). -/

namespace Sys2Proof.Machine

/-- The bits of STATUS 8 to 12 (10_state.md R28). -/
inductive StickyBit where
  | errSeed
  | errState
  | errCmd
  | errBusy
  | fnWrap

/-- The place of the bit in STATUS. -/
def StickyBit.place : StickyBit → Nat
  | .errSeed => 8
  | .errState => 9
  | .errCmd => 10
  | .errBusy => 11
  | .fnWrap => 12

/-- The bit as STATUS holds it. -/
def State.sticky (s : State) : StickyBit → Bool
  | .errSeed => s.errSeed
  | .errState => s.errState
  | .errCmd => s.errCmd
  | .errBusy => s.errBusy
  | .fnWrap => s.fnWrap

theorem sticky_withData (s : State) (d : Buffer) (b : StickyBit) : { s with data := d }.sticky b = s.sticky b := rfl

section
variable {s t : State} {b : StickyBit}

theorem raise_sticky (e : ErrorKind) (h : s.sticky b = true) : (raise e s).sticky b = true := by
  cases b with
  | fnWrap => exact h
  | _ => exact Bool.or_eq_true_iff.mpr (.inl h)

theorem clearStatus_sticky (v : Word) (h : s.sticky b = true) (hv : v.getLsbD b.place = false) :
    (clearStatus v s).sticky b = true := by
  cases b <;> exact Bool.and_eq_true_iff.mpr ⟨h, congrArg not hv⟩

theorem construct_sticky (h : s.sticky b = true) : (construct s).sticky b = true := by
  obtain ⟨-, e⟩ | ⟨-, e⟩ := construct_cases s <;> rw [e]
  · exact h
  · exact raise_sticky .seed h

/-- Of the bits, INC_FRAME touches FN_WRAP alone, and only sets it (41_generator_commands.md R70). -/
theorem incFrame_sticky (h : s.sticky b = true) : (incFrame s).sticky b = true := by
  cases b with
  | fnWrap => exact (incFrame_fnWrap s).trans (Bool.or_eq_true_iff.mpr (.inl h))
  | _ => simpa [State.sticky] using h

/-- Of the completions, CIPHER_FRAME's alone touches FN_WRAP, and only sets it (42_frame_cipher.md R75). -/
theorem sequencerStep_fnWrap_of_set (h : s.fnWrap = true) : (sequencerStep s).fnWrap = true := by
  obtain ⟨-, e⟩ | ⟨-, e⟩ | ⟨-, e⟩ | ⟨len, -, e⟩ := sequencerStep_cases s <;> simp [e, h]

theorem sequencerStep_sticky (h : s.sticky b = true) : (sequencerStep s).sticky b = true := by
  cases b with
  | fnWrap => exact sequencerStep_fnWrap_of_set h
  | _ => simpa [State.sticky] using h

theorem CommandEffect.sticky {i : Instr} (hc : CommandEffect s i t) (hi : i ≠ .sreset) (h : s.sticky b = true) :
    t.sticky b = true := by
  cases hc with
  | sreset => exact absurd rfl hi
  | busyError | commandError | stateError => exact raise_sticky _ h
  | construct => exact construct_sticky h
  | incFrame => exact incFrame_sticky h
  | nop | accepted => exact h

theorem bounds_of_status {off : Nat} (hw : windowWord (wordOffset off) = .status) : 4 ≤ off ∧ off < 8 := by
  have hat := wordAt_windowWord off
  rw [hw] at hat
  cases hat with
  | status h => exact h

/-- The one effect left that can clear the bit is a STATUS write with a 1 in its place. -/
theorem Effect.sticky_or_cleared {e : Input} (heff : Effect s e t) (hreset : e ≠ .reset) (hpower : e ≠ .powerLoss)
    (hs : ¬ s.isSresetWrite e) (h : s.sticky b = true) :
    t.sticky b = true ∨ ∃ off v, 4 ≤ off ∧ off < 8 ∧ e = s.writeInput off v ∧ v.getLsbD b.place = true := by
  cases heff with
  | command hw hd hc =>
    refine .inl (hc.sticky ?_ h)
    rintro rfl
    exact hs ⟨_, off_lt_four_of_cmd hw, congrArg _ (encode_of_decode hd).symm⟩
  | @status off v hw =>
    obtain ⟨hlow, hhigh⟩ := bounds_of_status hw
    cases hv : v.getLsbD b.place with
    | true => exact .inr ⟨off, v, hlow, hhigh, rfl, hv⟩
    | false => exact .inl (clearStatus_sticky v h hv)
  | sequencer => exact .inl (sequencerStep_sticky h)
  | reset => exact absurd rfl hreset
  | powerLoss => exact absurd rfl hpower
  | illegalBusy | illegal | dataBusy => exact .inl (raise_sticky _ h)
  | read | ignored | keyLo | keyHi | frameIn => exact .inl h
  | dataStore => exact .inl ((sticky_withData s _ b).trans h)

/-- The step of the input e, and the step of a silent host as a turn of the sequencer (log 3). -/
theorem effect_of_step_or_silent {e : Input}
    (h : step (s.withNext e) = .next t ∨ (e = .sequencer ∧ s.inputs = [] ∧ step s = .next t)) : Effect s e t := by
  obtain h | ⟨rfl, hnil, h⟩ := h
  · exact perform_effect h
  · exact perform_effect ((step_silent hnil).symm.trans h)

end

/-- Settles O45: one argument over the effects of an input, for each of the five bits. -/
theorem statusBitsAreSticky : Obligations.StatusBitsAreSticky := by
  intro s t e hreset hpower hs hstep
  have hkept (b : StickyBit) := (effect_of_step_or_silent hstep).sticky_or_cleared (b := b) hreset hpower hs
  exact ⟨hkept .errSeed, hkept .errState, hkept .errCmd, hkept .errBusy, hkept .fnWrap⟩

end Sys2Proof.Machine
end

section
/-! PROOFS. A CMD write reports the first condition that applies to it (spec 30_encoding.md R49,
41_generator_commands.md R65, 60_exceptions.md R87). -/

namespace Sys2Proof.Machine

theorem opcode_eq_one {i : Instr} (h : opcode i = 1) : i = .construct := by
  cases i with
  | construct => rfl
  | _ => simp [opcode] at h

theorem opcode_eq_six {i : Instr} (h : opcode i = 6) : i = .sreset := by
  cases i with
  | sreset => rfl
  | _ => simp [opcode] at h

/-- Admission by OP (41_generator_commands.md R65). -/
def State.Admits (s : State) (op : BitVec 4) : Prop :=
  (op = 2 ∨ op = 4 ∨ op = 5 → s.phase ≠ .none) ∧ (op = 3 → s.phase = .seeded ∨ s.phase = .extracting)

section
variable {s t : State} {i : Instr}

/-- Its phase refuses a command exactly when the command's OP is not admitted. -/
theorem phaseRefuses_iff (s : State) (i : Instr) : s.PhaseRefuses i ↔ ¬ s.Admits (opcode i) := by
  cases i with
  | getFrame => cases h : s.phase <;> simp [State.PhaseRefuses, State.Admits, opcode, h]
  | _ => simp [State.PhaseRefuses, State.Admits, opcode]

theorem exec_phaseRefused (hb : s.busy = false) (hwf : i.wf = true) (h : s.PhaseRefuses i) :
    exec i s = .next { s with errState := true } := by
  obtain ⟨hp, rfl | rfl | ⟨len, rfl⟩⟩ | ⟨hp, rfl⟩ := h
  · exact exec_init_stateError hb hp
  · exact exec_incFrame_stateError hb hp
  · exact exec_cipherFrame_stateError hb ((lenLegal_eq_true_iff len).mp ((wf_cipherFrame len).symm.trans hwf)) hp
  · exact exec_getFrame_stateError hb hp

/-- A command that runs sets none of the four error bits. -/
theorem CommandEffect.errors_kept (h : CommandEffect s i t) (hb : s.busy = false) (hi : i ≠ .sreset)
    (hwf : i.wf = true) (hp : ¬ s.PhaseRefuses i) (hframe : i = .construct → s.frameInRange = true) :
    t.errBusy = s.errBusy ∧ t.errCmd = s.errCmd ∧ t.errState = s.errState ∧ t.errSeed = s.errSeed := by
  cases h with
  | sreset => exact absurd rfl hi
  | busyError hb' => simp [hb] at hb'
  | commandError _ hwf' => simp [hwf] at hwf'
  | stateError _ hp' => exact absurd hp' hp
  | construct => simp [hframe rfl]
  | nop | incFrame | accepted => exact ⟨rfl, rfl, rfl, rfl⟩

end

/-- A CMD write of a legal word is the write of a command, whose OP and well-formedness are the word's. -/
theorem exec_of_writeCommand {v : Word} {s t : State} (hlegal : ∃ i, decode v = .ok i)
    (ht : writeCommand v s = .next t) : ∃ i, opField v = opcode i ∧ i.wf = true ∧ exec i s = .next t := by
  obtain ⟨i, hd⟩ := hlegal
  obtain ⟨-, hop, -, hwf⟩ := isWordOf_of_decode hd
  exact ⟨i, hop, hwf, (writeCommand_of_decode hd s).symm.trans ht⟩

/-- Settles O18: a legal word is its command, which is refused by its phase, or is CONSTRUCT, or runs; the write of any
other word is refused. -/
theorem dispatchPriority : Obligations.DispatchPriority := by
  intro s v legal op admitted
  have hlegal : (∃ i, decode v = .ok i) ↔ legal := exists_decode_eq_ok_iff v
  obtain ⟨t, ht⟩ := writeCommand_next v s
  refine ⟨t, (step_writeCommand s v).trans ht, ?sreset, fun h6 hb => ?busy, fun hb hl => ?illegal,
    fun hb hl h6 ha => ?phase, fun hb hl h1 hframe => ?bound, fun hb hl h6 ha hframe => ?runs⟩
  case sreset =>
    rintro ⟨hl, h6⟩
    obtain ⟨i, hop, -, hexec⟩ := exec_of_writeCommand (hlegal.mpr hl) ht
    rwa [opcode_eq_six (hop.symm.trans h6)] at hexec
  case busy =>
    have hd : decode v ≠ .ok .sreset := fun hd => by
      obtain ⟨-, hop, -, -⟩ := isWordOf_of_decode hd
      exact h6 ⟨hlegal.mp ⟨_, hd⟩, hop⟩
    rw [writeCommand_busy hd hb, raise_busyError] at ht
    exact (Host.Outcome.next.inj ht).symm
  case illegal =>
    rw [writeCommand_illegal_idle (fun i hd => hl (hlegal.mp ⟨i, hd⟩)) hb, raise_command] at ht
    exact (Host.Outcome.next.inj ht).symm
  all_goals obtain ⟨i, hop, hwf, hexec⟩ := exec_of_writeCommand (hlegal.mpr hl) ht
  case phase =>
    have hp : s.PhaseRefuses i := (phaseRefuses_iff s i).mpr (hop ▸ ha)
    rw [exec_phaseRefused hb hwf hp] at hexec
    exact (Host.Outcome.next.inj hexec).symm
  case bound =>
    rw [opcode_eq_one (hop.symm.trans h1), exec_construct_idle hb, construct_outOfRange hframe] at hexec
    exact (Host.Outcome.next.inj hexec).symm
  case runs =>
    refine (exec_effect hexec).errors_kept hb ?_ hwf (fun hp => (phaseRefuses_iff s i).mp hp (hop ▸ ha)) ?_
    · rintro rfl
      exact h6 hop
    · rintro rfl
      exact (frameInRange_eq_true_iff s).mpr (Nat.lt_of_not_le fun h => hframe ⟨hop, h⟩)

end Sys2Proof.Machine
end

section
/-! PROOFS. A reset after a loss of power (spec 60_exceptions.md R94, 70_reset_and_hazards.md R95, R96). -/

namespace Sys2Proof.Machine

/-- Settles O54: a reset reads the build and the model's own fields alone, and of these a loss of power changes the
count of draws. -/
theorem resetDefinesStateAfterPowerLoss : Obligations.ResetDefinesStateAfterPowerLoss := by
  intro s t u hpower hreset
  obtain rfl : losePower s = t := Host.Outcome.next.inj hpower
  obtain rfl : resetBlock (losePower s) = u := Host.Outcome.next.inj hreset
  rfl

end Sys2Proof.Machine
end

section
/-! PROOFS. Reset (spec 70_reset_and_hazards.md R95, R96), and the completions as functions of DATA (R102). -/

namespace Sys2Proof.Machine

/-! ### Reset (R95, R96) -/

/-- Settles O17: both are `resetBlock`, whatever PENDING holds. -/
theorem resetInputIsSreset : Obligations.ResetInputIsSreset := fun s =>
  ⟨rfl, resetBlock s, rfl, resetBlock_pending s, resetBlock_phase s, resetBlock_statusWord s⟩

/-- The reset state of a build is one that a reset leaves. -/
theorem resetBlock_resetOf (b : Build) : resetBlock (State.resetOf b) = State.resetOf b := rfl

/-- Settles O41: a reset establishes the invariant, and a further one keeps the reset state. -/
theorem invHoldsAtReset : Obligations.InvHoldsAtReset := fun b =>
  resetBlock_resetOf b ▸ inv_resetBlock (State.resetOf b)

/-! ### The completions with other DATA (R102) -/

section
variable (s : State) (d : Buffer)

theorem completeInit_withData : completeInit { s with data := d } = { completeInit s with data := d } := rfl

theorem completeGetFrame_withData :
    completeGetFrame { s with data := d } = { completeGetFrame s with data := d } := rfl

/-- The DATA of the other completion is the other DATA under the same keystream. -/
theorem completeCipherFrame_withData (len : BitVec 6) :
    completeCipherFrame len { s with data := d } =
      { completeCipherFrame len s with data := xorBelow len.toNat (completeCipherFrame len s).ks d } := rfl

theorem sequencerStep_withData :
    ∃ e : Buffer, sequencerStep { s with data := d } = { sequencerStep s with data := e } := by
  have hpending : { s with data := d }.pending = s.pending := rfl
  obtain ⟨hp, hs⟩ | ⟨hp, hs⟩ | ⟨hp, hs⟩ | ⟨len, hp, hs⟩ := sequencerStep_cases s <;> rw [hs]
  case inl => exact ⟨d, sequencerStep_none (hpending.trans hp)⟩
  case inr.inl => exact ⟨d, (sequencerStep_init (hpending.trans hp)).trans (completeInit_withData s d)⟩
  case inr.inr.inl =>
    exact ⟨d, (sequencerStep_getFrame (hpending.trans hp)).trans (completeGetFrame_withData s d)⟩
  case inr.inr.inr =>
    exact ⟨_, (sequencerStep_cipherFrame (hpending.trans hp)).trans (completeCipherFrame_withData s d len)⟩

end

/-- Settles O49: the turns at the two states end in states that differ in DATA alone. -/
theorem keystreamIgnoresData : Obligations.KeystreamIgnoresData := by
  intro s t d hstep
  obtain rfl : sequencerStep s = t := Host.Outcome.next.inj hstep
  obtain ⟨e, he⟩ := sequencerStep_withData s d
  exact ⟨e, (step_sequencer _).trans (congrArg _ he)⟩

end Sys2Proof.Machine
end
